-- ==== Sys2Proof/Word.lean ====
section
/-! DEFINITION. The plain values everything else is written over: bytes and codes as bits, ticks as counts, and
`Tab n α`, a table of exactly `n` entries. -/

namespace Sys2Proof

/-- One byte of the serial line (R165). -/
abbrev Byte := BitVec 8

/-- One code of the analog converter, signed (R31). -/
abbrev Code := BitVec 16

/-- A count of periods of the 2 MHz timebase since power-on (00_scope.md, *Terms*). -/
abbrev Tick := Nat

/-- A table of exactly `n` entries, numbered from 0. -/
structure Tab (n : Nat) (α : Type) where
  list : List α
  len : list.length = n
deriving DecidableEq, Repr

namespace Tab

variable {α β : Type} {n : Nat}

/-- Entry `i`. -/
def get (t : Tab n α) (i : Fin n) : α :=
  t.list[i.val]'(Nat.lt_of_lt_of_eq i.isLt t.len.symm)

/-- The table with entry `i` replaced. -/
def set (t : Tab n α) (i : Fin n) (x : α) : Tab n α :=
  ⟨t.list.set i.val x, by rw [List.length_set, t.len]⟩

/-- The table with entry `i` changed by `f`. -/
def modify (t : Tab n α) (i : Fin n) (f : α → α) : Tab n α :=
  t.set i (f (t.get i))

/-- The table whose entry `i` is `f i`. -/
def ofFn (f : Fin n → α) : Tab n α :=
  ⟨List.ofFn f, List.length_ofFn⟩

/-- The table with every entry changed by `f`. -/
def map (f : α → β) (t : Tab n α) : Tab n β :=
  ⟨t.list.map f, by rw [List.length_map, t.len]⟩

/-- The table of `n` equal entries. -/
def replicate (n : Nat) (x : α) : Tab n α :=
  ⟨List.replicate n x, List.length_replicate⟩

end Tab

end Sys2Proof
end

