-- ==== Sys2Proof/Syntax.lean ====
section
/-! DEFINITION. The commands of the part: one constructor of `Instr` for each row of spec/opcode_table.json. Events that come
from outside, or whose instant the spec leaves open, carry the tick at which they happen. Events whose instant the part's own
state fixes (a deadline, a strobe, an expiry) carry none. A request row carries the fields of its frame: choices between two
values as their own types, and names and numbers as the whole numbers the line carries (R166, R176), so that a value outside a
field's range can be sent and is judged by the part. -/

namespace Sys2Proof

/-- The three tracking channels (chapter 1). -/
inductive Channel where
  | tl | th | tg
deriving DecidableEq, Repr

/-- One value for each tracking channel. -/
structure PerChannel (α : Type) where
  tl : α
  th : α
  tg : α
deriving DecidableEq, Repr

/-- The twelve analog inputs: VA0 to VA5, GV1 to GV3 (phase 0 is GV1) and GI1 to GI3. -/
inductive Input where
  | va (i : Fin 6)
  | gv (phase : Fin 3)
  | gi (phase : Fin 3)
deriving DecidableEq, Repr

/-- Polarity of the transitions a channel counts (R1, R3). -/
inductive Edge where
  | rising | falling
deriving DecidableEq, Repr

/-- The accrued choice of SET_ITEM (R138). -/
inductive AccruedChoice where
  | keep | zero
deriving DecidableEq, Repr

/-- What the serial receiver judges at a byte's stop bit (R165): a good byte, or a framing fault. `lineHeldLow` says that the
line stays low after the fault, which is a break. -/
inductive Arrival where
  | byte (b : Byte)
  | fault (lineHeldLow : Bool)
deriving DecidableEq, Repr

/-- SET_TRACK's fields (R2). Channels are numbered TL 0, TH 1, TG 2 (R176). -/
structure TrackFields where
  channel : Nat
  enable : Bool
  edge : Edge
  z : Nat
  n : Nat
  tmin : Nat
  tmax : Nat
  filter : Nat
deriving DecidableEq, Repr

/-- One entry of SET_SCAN: the input's number, 255 for empty, and the stop mark (R24, R166). -/
structure ScanEntryField where
  input : Nat
  stop : Bool
deriving DecidableEq, Repr

/-- SET_SCAN's fields (R26). A start pointer is an entry number, 255 for none. -/
structure ScanFields where
  entries : Tab 24 ScanEntryField
  startTl : Nat
  startTh : Nat
  startTg : Nat
deriving DecidableEq, Repr

/-- SET_INPUT's fields (R54). -/
structure InputFields where
  input : Nat
  k : Nat
  orders : Tab 4 Nat
deriving DecidableEq, Repr

/-- SET_GRID's fields (R72): entry 0 of `limits` is order 2's limit, entry 23 order 25's. -/
structure GridFields where
  limits : Tab 24 Nat
  voltageThd : Nat
  currentThd : Nat
  kp : Nat
deriving DecidableEq, Repr

/-- A warn level W and an alarm level L (R82). -/
structure LevelPair where
  warn : Nat
  alarm : Nat
deriving DecidableEq, Repr

/-- SET_REGIME's fields (R84). -/
structure RegimeFields where
  breakpoints : Tab 6 Nat
  map : Tab 8 Nat
deriving DecidableEq, Repr

/-- SET_PROFILE's fields (R85). -/
structure ProfileFields where
  profile : Nat
  input : Nat
  levels : Tab 8 LevelPair
  persistence : Nat
deriving DecidableEq, Repr

/-- READ_REGIME's row selection (R86). -/
structure RowSelection where
  profile : Nat
  input : Nat
deriving DecidableEq, Repr

/-- AMBIENT's fields (R109). -/
structure AmbientFields where
  temperature : Int
  humidity : Int
  wind : Int
deriving DecidableEq, Repr

/-- SET_ICE's fields (R111). -/
structure IceFields where
  tice : Int
  hice : Nat
  powerMargin : Nat
  imbalanceMargin : Nat
  period : Nat
  tConfirm : Nat
  tThaw : Nat
  iceInput : Nat
  zeroBaseline : Bool
deriving DecidableEq, Repr

/-- A point of the power curve: a wind speed in 0.1 m/s and a power in kW (R112). -/
structure CurvePoint where
  wind : Nat
  power : Nat
deriving DecidableEq, Repr

/-- SET_ITEM's fields (R138). Bases are numbered NONE 0, OPERATING 1, REVOLUTIONS 2, ENERGY 3, DAMAGE 4, ICE 5, CALENDAR 6;
a source is an input's or a channel's number, 255 for none. -/
structure ItemFields where
  slot : Nat
  tag : Nat
  basis : Nat
  source : Nat
  interval : Nat
  lead : Nat
  choice : AccruedChoice
deriving DecidableEq, Repr

/-- The commands: one constructor for each row of spec/opcode_table.json, in the table's order. `tick` is the instant of the
command; for a request it is the instant at which its frame is complete (R168, R169). -/
inductive Instr where
  /-- POWER_ON (R180) -/
  | powerOn
  /-- STARTUP_END (R180) -/
  | startupEnd (tick : Tick)
  /-- RESET_BEGIN (R181) -/
  | resetBegin (tick : Tick)
  /-- PULSE_TRANSITION (R3): the channel's pulse input takes the level `high` -/
  | pulseTransition (ch : Channel) (high : Bool) (tick : Tick)
  /-- COUNTED_EDGE (R3) -/
  | countedEdge (ch : Channel)
  /-- VIRTUAL_EDGE (R9) -/
  | virtualEdge (ch : Channel)
  /-- HOLDOVER_DEADLINE (R10) -/
  | holdoverDeadline (ch : Channel)
  /-- STROBE (R29) -/
  | strobe (ch : Channel)
  /-- CONVERSION_COMPLETE (R31), with the converter's code -/
  | conversionComplete (code : Code)
  /-- INDICATOR_COMPUTATION_END (R101) -/
  | indicatorComputationEnd (va : Fin 6) (tick : Tick)
  /-- POWER_FRESHNESS_EXPIRY (R71) -/
  | powerFreshnessExpiry
  /-- DEVICE_SECOND (R173) -/
  | deviceSecond
  /-- AMBIENT_STALE (R110) -/
  | ambientStale
  /-- ICE_EVALUATION (R114) -/
  | iceEvaluation
  /-- T_CONFIRM_EXPIRY (R121) -/
  | tConfirmExpiry
  /-- T_THAW_EXPIRY (R125) -/
  | tThawExpiry
  /-- KEY_FALL (R144) -/
  | keyFall (tick : Tick)
  /-- KEY_RISE (R144) -/
  | keyRise (tick : Tick)
  /-- KEY_LONG_LOW (R144) -/
  | keyLongLow
  /-- TRAIN_END (R145) -/
  | trainEnd
  /-- HOLD_EXPIRY (R147) -/
  | holdExpiry
  /-- SERIAL_BYTE (R167) -/
  | serialByte (arrival : Arrival) (tick : Tick)
  /-- FRAME_TIMEOUT (R167) -/
  | frameTimeout
  /-- REPLY_SENT (R169) -/
  | replySent (tick : Tick)
  /-- STORE_WRITE_COMPLETE (R178) -/
  | storeWriteComplete (success : Bool) (tick : Tick)
  /-- HELLO (R171) -/
  | hello (tick : Tick)
  /-- STATUS (R172) -/
  | status (tick : Tick)
  /-- TIME (R174) -/
  | time (farm : Nat) (tick : Tick)
  /-- SET_TRACK (R2) -/
  | setTrack (f : TrackFields) (tick : Tick)
  /-- READ_TRACK (R21) -/
  | readTrack (channel : Nat) (tick : Tick)
  /-- SET_SCAN (R28) -/
  | setScan (f : ScanFields) (tick : Tick)
  /-- SET_INPUT (R54) -/
  | setInput (f : InputFields) (tick : Tick)
  /-- CLEAR_AVERAGE (R55): an input's number, 255 for all -/
  | clearAverage (input : Nat) (resetLevels : Bool) (tick : Tick)
  /-- READ_TSA (R56) -/
  | readTsa (input : Nat) (start : Nat) (count : Nat) (tick : Tick)
  /-- READ_INDICATORS (R106) -/
  | readIndicators (input : Nat) (tick : Tick)
  /-- SET_GRID (R72) -/
  | setGrid (f : GridFields) (tick : Tick)
  /-- READ_GRID (R73) -/
  | readGrid (input : Nat) (tick : Tick)
  /-- SET_REGIME (R84) -/
  | setRegime (f : RegimeFields) (tick : Tick)
  /-- SET_PROFILE (R85) -/
  | setProfile (f : ProfileFields) (tick : Tick)
  /-- READ_REGIME (R86) -/
  | readRegime (row : Option RowSelection) (tick : Tick)
  /-- AMBIENT (R109) -/
  | ambient (f : AmbientFields) (tick : Tick)
  /-- SET_ICE (R111) -/
  | setIce (f : IceFields) (tick : Tick)
  /-- SET_CURVE (R112) -/
  | setCurve (points : List CurvePoint) (tick : Tick)
  /-- READ_ICE (R131) -/
  | readIce (tick : Tick)
  /-- ICE_RELEASE (R127) -/
  | iceRelease (tick : Tick)
  /-- SET_ITEM (R139) -/
  | setItem (f : ItemFields) (tick : Tick)
  /-- SERVICE_DONE (R140) -/
  | serviceDone (slot : Nat) (tick : Tick)
  /-- READ_ITEMS (R142) -/
  | readItems (first : Nat) (count : Nat) (tick : Tick)
  /-- FETCH (R158) -/
  | fetch (tick : Tick)
  /-- SNAP_READ (R162) -/
  | snapRead (offset : Nat) (count : Nat) (tick : Tick)
  /-- SNAP_POP (R163) -/
  | snapPop (number : Nat) (tick : Tick)
  /-- SAVE (R179) -/
  | save (tick : Tick)
  /-- RESET (R181) -/
  | reset (tick : Tick)
  /-- POWER_LOSS (R177) -/
  | powerLoss (tick : Tick)
  /-- LINE_RETURNED_HIGH (R165) -/
  | lineReturnedHigh (tick : Tick)
deriving DecidableEq, Repr

/-- A request held by the link while it waits (R169): the same rows without their instant, and `malformed` for a frame one of
whose choice fields carries a code that names no value (its type is kept for the reply). -/
inductive Request where
  | hello
  | status
  | time (farm : Nat)
  | setTrack (f : TrackFields)
  | readTrack (channel : Nat)
  | setScan (f : ScanFields)
  | setInput (f : InputFields)
  | clearAverage (input : Nat) (resetLevels : Bool)
  | readTsa (input : Nat) (start : Nat) (count : Nat)
  | readIndicators (input : Nat)
  | setGrid (f : GridFields)
  | readGrid (input : Nat)
  | setRegime (f : RegimeFields)
  | setProfile (f : ProfileFields)
  | readRegime (row : Option RowSelection)
  | ambient (f : AmbientFields)
  | setIce (f : IceFields)
  | setCurve (points : List CurvePoint)
  | readIce
  | iceRelease
  | setItem (f : ItemFields)
  | serviceDone (slot : Nat)
  | readItems (first : Nat) (count : Nat)
  | fetch
  | snapRead (offset : Nat) (count : Nat)
  | snapPop (number : Nat)
  | save
  | reset
  | malformed (type : Nat)
deriving DecidableEq, Repr

end Sys2Proof
end

