-- ==== Sys2Proof/Config.lean ====
section
/-! DEFINITION. The free values: results the spec does not state, as constants without a body, so that nothing in Lean can
know them and every claim holds whatever they are. -/

namespace Sys2Proof

/-- The quotient of a division whose divisor is 0, by its dividend: the spec gives no result for it (assumption 1). -/
opaque Config.quotientByZero : Nat → Nat

/-- The level of an output line while the part has no supply (0 ICESTOP, 1 ATTN): the spec gives none (assumption 2). -/
opaque Config.unpoweredLine : Nat → Bool

/-- What READ_TRACK carries for a rate that its 4-byte field cannot hold: the spec gives no form for it (assumption 3). -/
opaque Config.wideRate : Nat → Nat

end Sys2Proof
end

