-- ==== Sys2Proof/Machine/State.lean ====
section
/-! DEFINITION. The part's state as plain data, block by block as 00_scope.md divides it, the reasons a step can stop, and the
state right after reset. -/

namespace Sys2Proof.Machine

/-! ### Tracking Unit (chapter 1) -/

/-- The five states of a tracking channel (§1.3). -/
inductive LockState where
  | off | acquiring | locked | holdover | stalled
deriving DecidableEq, Repr

/-- A channel's settings (R1). -/
structure TrackSettings where
  enable : Bool
  edge : Edge
  z : Nat
  n : Nat
  tmin : Nat
  tmax : Nat
  filter : Nat
deriving DecidableEq, Repr

/-- The name of one revolution: its channel and its serial number on that channel. The serial is the model's own; it only
tells revolutions apart. -/
structure RevId where
  channel : Channel
  serial : Nat
deriving DecidableEq, Repr

/-- An open revolution (§1.3, R16): its flags, its running tick length, its samples per revolution and the time of its
opening edge. -/
structure OpenRev where
  id : RevId
  samples : Nat
  unsteady : Bool
  virtual : Bool
  ticks : Nat
  openedAt : Tick
deriving DecidableEq, Repr

/-- A transition in the filter (R3), with the filter setting in force when it was first seen. -/
structure Transition where
  seenAt : Tick
  filter : Nat
deriving DecidableEq, Repr

/-- The strobes started by one edge (R13): strobe j fires floor(j * interval / count) ticks after `base` and carries slot
`firstSlot + j`. `next` is the first strobe that has not fired. -/
structure StrobeRun where
  base : Tick
  interval : Nat
  count : Nat
  firstSlot : Nat
  next : Nat
deriving DecidableEq, Repr

/-- One tracking channel (§1.1 to §1.6). -/
structure Track where
  /-- the level of the pulse input, true for high -/
  line : Bool
  lock : LockState
  settings : TrackSettings
  staged : Option TrackSettings
  /-- the consistency count -/
  c : Nat
  tprev : Option Nat
  /-- the reference edge's time -/
  ref : Option Tick
  /-- the pulse index -/
  p : Nat
  rev : Option OpenRev
  /-- the time from which the next deadline is counted -/
  deadlineFrom : Option Tick
  transition : Option Transition
  strobes : Option StrobeRun
  closedCount : Nat
  stallCount : Nat
  /-- tick length of the last revolution closed since the last entry to LOCKED from ACQUIRING (R17) -/
  lastTicks : Option Nat
  /-- the serial of the next revolution to open (the model's own) -/
  nextSerial : Nat
deriving DecidableEq, Repr

/-! ### Acquisition Sequencer (chapter 2) -/

/-- One entry of the scan table (R24); `none` is empty. -/
structure ScanEntry where
  input : Option Input
  stop : Bool
deriving DecidableEq, Repr

/-- The scan table and the start pointers (R24). -/
structure ScanTable where
  entries : Tab 24 ScanEntry
  starts : PerChannel (Option (Fin 24))
deriving DecidableEq, Repr

/-- A pending scan (§2.3). -/
structure Scan where
  rev : RevId
  slot : Nat
  samples : Nat
  entries : List Input
  position : Nat
deriving DecidableEq, Repr

/-- A conversion in progress (R31). `test` is the test value it yields in TEST (R37). `fromIdle` says that it began because a
scan was created while the converter was idle, which scans created at the same instant may still change (R30). -/
structure Conversion where
  rev : RevId
  slot : Nat
  input : Input
  began : Tick
  test : Option Int
  fromIdle : Bool
deriving DecidableEq, Repr

structure Acq where
  table : ScanTable
  scans : PerChannel (Option Scan)
  converter : Option Conversion
deriving DecidableEq, Repr

/-- A filled slot of a revolution or cycle buffer (R39, R58). -/
structure SlotSample where
  slot : Nat
  value : Int
  held : Bool
  clipped : Bool
deriving DecidableEq, Repr

/-- A revolution buffer or cycle buffer: the filled slots in rising order and the count of clipped ones (R39, R58). -/
structure RevBuffer where
  rev : RevId
  slots : List SlotSample
  clipped : Nat
deriving DecidableEq, Repr

/-! ### Synchronous Averager (chapter 3) -/

/-- The five revolution counts of an input (R44). -/
structure RevCounts where
  accepted : Nat
  virtual : Nat
  unsteady : Nat
  clipped : Nat
  held : Nat
deriving DecidableEq, Repr

/-- The averaging shift and the watched orders of an input (R54). -/
structure InputSettings where
  k : Nat
  orders : Tab 4 Nat
deriving DecidableEq, Repr

/-- What the Synchronous Averager holds for one VA input (R39, R44 to R46, R54). -/
structure Sav where
  settings : InputSettings
  owner : Option Channel
  /-- revolutions averaged since the last clear -/
  n : Nat
  /-- the N the record is cut at -/
  samples : Nat
  /-- A[0] to A[255] -/
  acc : List Int
  buffer : Option RevBuffer
  counts : RevCounts
  clipRun : Nat
deriving DecidableEq, Repr

/-! ### Indicator Evaluator (chapter 6) -/

/-- The levels (§6.3). -/
inductive Level where
  | normal | warn | alarm
deriving DecidableEq, Repr

structure LevelState where
  level : Level
  rise : Nat
  fall : Nat
deriving DecidableEq, Repr

/-- An indicator's value or its mark (R91). -/
inductive IndValue where
  | value (v : Nat)
  | unused
  | absent
deriving DecidableEq, Repr

/-- The copies that an update hands to the evaluator (R49). -/
structure Copies where
  revNumber : Nat
  samples : Nat
  n : Nat
  warm : Bool
  avg : List Int
  raw : List Int
deriving DecidableEq, Repr

/-- A computation in progress with the watched orders it works with (R92). -/
structure Computation where
  copies : Copies
  orders : Tab 4 Nat
  started : Tick
deriving DecidableEq, Repr

/-- An indicator set (R92). -/
structure IndicatorSet where
  revNumber : Nat
  samples : Nat
  n : Nat
  warm : Bool
  orders : Tab 4 Nat
  values : Tab 8 IndValue
deriving DecidableEq, Repr

/-- What the Indicator Evaluator holds for one VA input (R92, R93, §6.3). -/
structure Ind where
  set : Option IndicatorSet
  levels : Tab 8 LevelState
  computing : Option Computation
  waiting : Option Copies
  dropped : Nat
deriving DecidableEq, Repr

/-! ### Grid Analyzer (chapter 4). Its six inputs are numbered GV1 to GV3 as 0 to 2 and GI1 to GI3 as 3 to 5. -/

/-- A limit state with its runs; `named` is the named order of a harmonic state in EXCEEDED (R68). -/
structure LimitState where
  exceeded : Bool
  exceedRun : Nat
  withinRun : Nat
  named : Option Nat
deriving DecidableEq, Repr

/-- An input's last block results (R64): `hb` holds Hb_1 to Hb_25. -/
structure GridResult where
  hb : List Nat
  thd : Nat
  noFund : Bool
deriving DecidableEq, Repr

structure GridInput where
  buffer : Option RevBuffer
  result : Option GridResult
  harmonic : LimitState
  thd : LimitState
deriving DecidableEq, Repr

/-- The open block (R63). -/
structure OpenBlock where
  accepted : Nat
  rejected : Nat
  squares : Tab 6 (List Nat)
  powerSum : Option Int
  clipped : Bool
  start : Tick
deriving DecidableEq, Repr

/-- The part-wide last block results (R64). -/
structure BlockInfo where
  number : Nat
  elapsed : Nat
  accepted : Nat
  rejected : Nat
  clipped : Bool
  pkw : Option Int
deriving DecidableEq, Repr

/-- The cycle counts (R60). -/
structure CycleCounts where
  accepted : Nat
  virtual : Nat
  unsteady : Nat
  held : Nat
deriving DecidableEq, Repr

/-- The grid settings (R72); entry 0 of `limits` is order 2's. -/
structure GridSettings where
  limits : Tab 24 Nat
  voltageThd : Nat
  currentThd : Nat
  kp : Nat
deriving DecidableEq, Repr

/-- Known block power: the last P_kW and the instant of its block close (R71). -/
structure KnownPower where
  pkw : Int
  since : Tick
deriving DecidableEq, Repr

structure Gra where
  settings : GridSettings
  inputs : Tab 6 GridInput
  block : Option OpenBlock
  last : Option BlockInfo
  blockCount : Nat
  counts : CycleCounts
  energy : Nat
  remainder : Nat
  /-- present while power is known -/
  power : Option KnownPower
deriving DecidableEq, Repr

/-! ### Regime Classifier (chapter 5) -/

/-- The candidate with its count, 1 or 2; an absent candidate has count 0 (R76). -/
structure Candidate where
  regime : Fin 8
  count : Nat
deriving DecidableEq, Repr

/-- One input's row of a profile (R82). -/
structure Row where
  levels : Tab 8 LevelPair
  persistence : Nat
deriving DecidableEq, Repr

/-- The regime settings (R82). -/
structure RegimeSettings where
  breakpoints : Tab 6 Nat
  map : Tab 8 (Fin 8)
  profiles : Tab 8 (Tab 6 Row)
deriving DecidableEq, Repr

structure Rgc where
  settings : RegimeSettings
  regime : Fin 8
  candidate : Option Candidate
  active : Fin 8
deriving DecidableEq, Repr

/-! ### Icing Monitor (chapter 7) -/

inductive IcingState where
  | clear | watch | suspect | iced | thaw
deriving DecidableEq, Repr

/-- The ambient record (R108). Its age is counted from `receivedAt`. -/
structure Ambient where
  temperature : Int
  humidity : Int
  wind : Int
  receivedAt : Tick
  fresh : Bool
deriving DecidableEq, Repr

/-- The icing settings (R111). -/
structure IceSettings where
  tice : Int
  hice : Nat
  powerMargin : Nat
  imbalanceMargin : Nat
  period : Nat
  tConfirm : Nat
  tThaw : Nat
  iceInput : Fin 6
deriving DecidableEq, Repr

inductive RunKind where
  | confirm | clear
deriving DecidableEq, Repr

/-- T_thaw (R118). -/
inductive ThawTimer where
  | stopped
  | running (expiry : Tick)
  | elapsed
deriving DecidableEq, Repr

/-- The gathered order-1 amplitude with the owning channel handed with it (R116). -/
structure Gathered where
  value : Nat
  owner : Option Channel
deriving DecidableEq, Repr

/-- P_mean and the number of blocks it came from (R114). -/
structure MeanPower where
  pmean : Int
  blocks : Nat
deriving DecidableEq, Repr

/-- The last evaluation record (R114). A criterion is `none` when unknown. -/
structure EvalRecord where
  deviceSeconds : Nat
  cold : Option Bool
  deficit : Option Bool
  imbalance : Option Bool
  power : Option MeanPower
  o1 : Option Nat
  expected : Option Int
  regime : Fin 8
  learned : Bool
deriving DecidableEq, Repr

structure Icm where
  settings : IceSettings
  curve : List CurvePoint
  ambient : Option Ambient
  powerSum : Int
  powerCount : Nat
  gathered : Option Gathered
  state : IcingState
  e1 : Nat
  e2 : Nat
  runKind : Option RunKind
  /-- T_confirm's expiry while it runs -/
  tConfirm : Option Tick
  tThaw : ThawTimer
  baseline : Nat
  learnedCount : Nat
  lastEval : Option EvalRecord
  /-- the next evaluation, absent during start-up -/
  nextEval : Option Tick
  /-- the ICESTOP line, true when asserted -/
  icestop : Bool
deriving DecidableEq, Repr

/-! ### Maintenance Scheduler and Service Key Decoder (chapter 8) -/

inductive Basis where
  | none | operating | revolutions | energy | damage | ice | calendar
deriving DecidableEq, Repr

inductive ItemSource where
  | none
  | va (i : Fin 6)
  | channel (ch : Channel)
deriving DecidableEq, Repr

inductive ItemState where
  | unused | running | dueSoon | due | overdue
deriving DecidableEq, Repr

/-- A service item (R132). -/
structure Item where
  tag : Nat
  basis : Basis
  source : ItemSource
  interval : Nat
  lead : Nat
  accrued : Nat
  state : ItemState
  calendarStart : Option Nat
  lastDone : Option Nat
  doneCount : Nat
deriving DecidableEq, Repr

inductive ServiceMode where
  | normal | service | test
deriving DecidableEq, Repr

/-- The Service Key Decoder (§8.4). -/
structure Skd where
  /-- the KEY line is low -/
  low : Bool
  /-- start-up ended with KEY low and it has not risen since (R150) -/
  awaitRise : Bool
  /-- the fall that began the low period being judged -/
  fellAt : Option Tick
  /-- the last rise -/
  roseAt : Option Tick
  train : Option Nat
  lastTrain : Nat
  mode : ServiceMode
  /-- the hold timer's expiry while it runs -/
  hold : Option Tick
deriving DecidableEq, Repr

/-! ### Alert List and Snapshot Stack (chapter 9) -/

inductive AlertKind where
  | vibLevel | iceImbalance | sensorSaturated | trackLost | gridRange | gridHarmonic | gridThd | iceState | ambientStale
  | itemState | serviceRecorded | serviceMode | storeDefaults | storeFault
deriving DecidableEq, Repr

inductive Severity where
  | note | warn | alarm
deriving DecidableEq, Repr

/-- An alert's source with its type (R151). -/
inductive Source where
  | none
  | input (i : Input)
  | channel (ch : Channel)
  | slot (i : Fin 16)
deriving DecidableEq, Repr

/-- The snapshot field of an alert (R151), and what a request to take a snapshot hands back (R161). -/
inductive SnapField where
  | absent
  | number (n : Nat)
  | noSnapshot
deriving DecidableEq, Repr

/-- An alert record (R151). -/
structure AlertRecord where
  seq : Nat
  kind : AlertKind
  severity : Severity
  source : Source
  sub : Option Nat
  detail : Option Int
  threshold : Option Int
  regime : Fin 8
  deviceSeconds : Nat
  farm : Option Nat
  repeats : Nat
  service : Bool
  test : Bool
  snapshot : SnapField
deriving DecidableEq, Repr

structure Alt where
  records : List AlertRecord
  nextSeq : Nat
  overflow : Bool
  /-- the ATTN line, true when asserted -/
  attn : Bool
deriving DecidableEq, Repr

/-- A snapshot's values and kind fields (R160). -/
inductive SnapBody where
  | tsa (va : Fin 6) (values : List Int) (n : Nat) (samples : Nat) (speed : Nat) (regime : Fin 8)
  | grid (input : Fin 6) (values : List Nat) (thd : Nat) (pkw : Option Int)
deriving DecidableEq, Repr

structure Snapshot where
  number : Nat
  deviceSeconds : Nat
  farm : Option Nat
  service : Bool
  test : Bool
  body : SnapBody
deriving DecidableEq, Repr

/-- The Snapshot Stack, bottom first (R160). -/
structure Sns where
  stack : List Snapshot
  nextNumber : Nat
deriving DecidableEq, Repr

/-! ### Settings Store (chapter 11) -/

/-- The fields of an item that a store write copies (R143). -/
structure StoredItem where
  tag : Nat
  basis : Basis
  source : ItemSource
  interval : Nat
  lead : Nat
  accrued : Nat
  calendarStart : Option Nat
  lastDone : Option Nat
  doneCount : Nat
deriving DecidableEq, Repr

/-- The icing state as it is stored (R129). -/
inductive StoredIcing where
  | clear | iced | thaw
deriving DecidableEq, Repr

/-- The contents of the image (R177). -/
structure Image where
  track : PerChannel TrackSettings
  scan : ScanTable
  inputs : Tab 6 InputSettings
  grid : GridSettings
  regime : RegimeSettings
  ice : IceSettings
  curve : List CurvePoint
  items : Tab 16 StoredItem
  baseline : Nat
  learnedCount : Nat
  icing : StoredIcing
deriving DecidableEq, Repr

/-- The non-volatile memory: blank, an image whose CRC does not match, or a valid image (R177, R180). -/
inductive StoredImage where
  | blank
  | bad
  | valid (image : Image)
deriving DecidableEq, Repr

/-- A store write in flight: its copy and its start (R177). -/
structure StoreWrite where
  copy : Image
  started : Tick
deriving DecidableEq, Repr

structure Sst where
  image : StoredImage
  inFlight : Option StoreWrite
  pendingWrite : Bool
  lastFailed : Bool
  loadedValid : Bool
  /-- advances of device seconds since the end of start-up or the last autosave (R178) -/
  autosave : Nat
deriving DecidableEq, Repr

/-! ### Link Port (chapter 10) -/

/-- The status codes (R170). -/
inductive Status where
  | ok | staged | empty | badFrame | badType | badLength | badValue | conflict | busy | notInService | timeUnset | badState
  | storeFault
deriving DecidableEq, Repr

/-- A field of a reply: its width in bytes and its value, sent high byte first, in two's complement when negative (R166). -/
structure Field where
  width : Nat
  value : Int
deriving DecidableEq, Repr

/-- A reply (R170): its type byte, its status and its fields in the order of the owning rule. -/
structure Reply where
  type : Nat
  status : Status
  fields : List Field
deriving DecidableEq, Repr

/-- A place of the reply order: pending, or ready with its reply (§10.3). `resets` marks the OK reply of a RESET (R175). -/
structure Place where
  reply : Option Reply
  resets : Bool
deriving DecidableEq, Repr

/-- The frame receiver (§10.2): `gathered` holds the bytes after the start byte and `last` the time of the last receipt. -/
inductive Receiver where
  | hunting
  | receiving (gathered : List Byte) (last : Tick)
deriving DecidableEq, Repr

/-- How far a RESET has come (R175, R181). -/
inductive ResetPhase where
  | none
  /-- served; frames are discarded and its OK reply is on its way -/
  | served
  /-- its OK reply has been sent in full; the part waits for the store -/
  | replied
deriving DecidableEq, Repr

/-- The store write a served SAVE waits for (R179). -/
inductive SaveWaits where
  | inFlight
  | pending
deriving DecidableEq, Repr

structure Lnk where
  receiver : Receiver
  /-- a break holds RXD low; the receiver takes nothing (R165) -/
  lineLow : Bool
  /-- the request being served; only SAVE is served over more than one step (R169) -/
  serving : Option SaveWaits
  waiting : Option Request
  order : List Place
  /-- the bytes of the reply being sent on TXD -/
  sending : Option (List Byte)
  reset : ResetPhase
deriving DecidableEq, Repr

/-- The clocks (R173). -/
structure Clock where
  deviceSeconds : Nat
  /-- the tick of the next advance of device seconds -/
  nextSecond : Tick
  /-- farm time, absent while unsynced -/
  farm : Option Nat
deriving DecidableEq, Repr

/-! ### The whole part -/

/-- Without supply, in start-up, or past its end (R180, R177). -/
inductive Phase where
  | off | startup | running
deriving DecidableEq, Repr

/-- The part's state. `pending` is the queue of commands that wait, first in, first out. -/
structure State where
  phase : Phase
  /-- the present tick -/
  now : Tick
  trk : PerChannel Track
  acq : Acq
  sav : Tab 6 Sav
  ind : Tab 6 Ind
  gra : Gra
  rgc : Rgc
  icm : Icm
  msc : Tab 16 Item
  skd : Skd
  alt : Alt
  sns : Sns
  lnk : Lnk
  clk : Clock
  sst : Sst
  pending : List Instr
deriving DecidableEq, Repr

/-- Why a step can stop with a fault. There is no such reason: the spec gives every command of the table an effect. -/
inductive Fault where
deriving DecidableEq, Repr

/-- Why a command can be refused. -/
inductive Refusal where
  /-- Raised by an arm of `exec` whose command has no meaning yet; none is left. Safe: the run stops. -/
  | notModelled (mnemonic : String)
deriving DecidableEq, Repr

/-! ### Defaults and reset values -/

/-- R1's defaults. -/
def TrackSettings.defaults : PerChannel TrackSettings where
  tl := ⟨true, .rising, 1, 256, 2000000, 40000000, 2000⟩
  th := ⟨true, .rising, 1, 256, 60000, 1200000, 200⟩
  tg := ⟨true, .rising, 1, 64, 30770, 44444, 400⟩

/-- R25's default table and start pointers. -/
def ScanTable.defaults : ScanTable where
  entries :=
    ⟨[⟨some (.va 0), false⟩, ⟨some (.va 1), true⟩, ⟨some (.va 2), false⟩, ⟨some (.va 3), false⟩, ⟨some (.va 4), false⟩,
      ⟨some (.va 5), true⟩, ⟨some (.gv 0), false⟩, ⟨some (.gv 1), false⟩, ⟨some (.gv 2), false⟩, ⟨some (.gi 0), false⟩,
      ⟨some (.gi 1), false⟩, ⟨some (.gi 2), true⟩] ++ List.replicate 12 ⟨none, false⟩, rfl⟩
  starts := ⟨some 0, some 2, some 6⟩

/-- R54's defaults. -/
def InputSettings.defaults : InputSettings where
  k := 4
  orders := ⟨[1, 2, 3, 4], rfl⟩

/-- R72's defaults. -/
def GridSettings.defaults : GridSettings where
  limits := Tab.replicate 24 0
  voltageThd := 80
  currentThd := 0
  kp := 0

/-- R82's and R87's defaults. -/
def RegimeSettings.defaults : RegimeSettings where
  breakpoints := ⟨[50, 300, 800, 1300, 1800, 2300], rfl⟩
  map := ⟨[0, 1, 2, 3, 4, 5, 6, 7], rfl⟩
  profiles := Tab.replicate 8 (Tab.replicate 6 ⟨Tab.replicate 8 ⟨0, 0⟩, 3⟩)

/-- R111's defaults. -/
def IceSettings.defaults : IceSettings where
  tice := 10
  hice := 85
  powerMargin := 150
  imbalanceMargin := 300
  period := 30
  tConfirm := 1200
  tThaw := 1800
  iceInput := 0

/-- An UNUSED item as it is stored (R132, R143). -/
def StoredItem.unused : StoredItem where
  tag := 0
  basis := .none
  source := .none
  interval := 0
  lead := 0
  accrued := 0
  calendarStart := none
  lastDone := none
  doneCount := 0

/-- What start-up takes when the image is blank or bad (R180). That the empty baseline holds 0 is the model's choice
(assumption 24). -/
def Image.defaults : Image where
  track := TrackSettings.defaults
  scan := ScanTable.defaults
  inputs := Tab.replicate 6 InputSettings.defaults
  grid := GridSettings.defaults
  regime := RegimeSettings.defaults
  ice := IceSettings.defaults
  curve := []
  items := Tab.replicate 16 StoredItem.unused
  baseline := 0
  learnedCount := 0
  icing := .clear

/-- A channel with these settings as start-up leaves it (R23). -/
def Track.afterStartUp (line : Bool) (settings : TrackSettings) : Track where
  line := line
  lock := if settings.enable then .acquiring else .off
  settings := settings
  staged := none
  c := 0
  tprev := none
  ref := none
  p := 0
  rev := none
  deadlineFrom := none
  transition := none
  strobes := none
  closedCount := 0
  stallCount := 0
  lastTicks := none
  nextSerial := 0

/-- A VA input's averager state after start-up (R57). The accumulators of an empty record have no meaning; they are held at 0. -/
def Sav.afterStartUp (settings : InputSettings) (owner : Option Channel) (samples : Nat) : Sav where
  settings := settings
  owner := owner
  n := 0
  samples := samples
  acc := List.replicate 256 0
  buffer := none
  counts := ⟨0, 0, 0, 0, 0⟩
  clipRun := 0

/-- A VA input's evaluator state after start-up (R107). -/
def Ind.afterStartUp : Ind where
  set := none
  levels := Tab.replicate 8 ⟨.normal, 0, 0⟩
  computing := none
  waiting := none
  dropped := 0

/-- A limit state at rest (R68, R75). -/
def LimitState.normal : LimitState where
  exceeded := false
  exceedRun := 0
  withinRun := 0
  named := none

/-- A grid input with nothing measured (R74, R75). -/
def GridInput.afterStartUp : GridInput where
  buffer := none
  result := none
  harmonic := LimitState.normal
  thd := LimitState.normal

/-- The Grid Analyzer after start-up (R75). -/
def Gra.afterStartUp (settings : GridSettings) : Gra where
  settings := settings
  inputs := Tab.replicate 6 GridInput.afterStartUp
  block := none
  last := none
  blockCount := 0
  counts := ⟨0, 0, 0, 0⟩
  energy := 0
  remainder := 0
  power := none

/-- The Regime Classifier after start-up (R87). -/
def Rgc.afterStartUp (settings : RegimeSettings) : Rgc where
  settings := settings
  regime := 0
  candidate := none
  active := settings.map.get 0

/-- The icing state a stored state restores (R130). -/
def StoredIcing.restored : StoredIcing → IcingState
  | .clear => .clear
  | .iced => .iced
  | .thaw => .thaw

/-- The ICESTOP line of an icing state (R126). -/
def IcingState.stops : IcingState → Bool
  | .clear | .watch | .suspect => false
  | .iced | .thaw => true

/-- The Icing Monitor after start-up has restored its state (R130); the clock and T_thaw start at the end of start-up. -/
def Icm.afterStartUp (settings : IceSettings) (curve : List CurvePoint) (baseline learnedCount : Nat) (icing : StoredIcing) :
    Icm where
  settings := settings
  curve := curve
  ambient := none
  powerSum := 0
  powerCount := 0
  gathered := none
  state := icing.restored
  e1 := 0
  e2 := 0
  runKind := none
  tConfirm := none
  tThaw := .stopped
  baseline := baseline
  learnedCount := learnedCount
  lastEval := none
  nextEval := none
  icestop := icing.restored.stops

/-- An UNUSED item (R132). -/
def Item.unused : Item where
  tag := 0
  basis := .none
  source := .none
  interval := 0
  lead := 0
  accrued := 0
  state := .unused
  calendarStart := none
  lastDone := none
  doneCount := 0

/-- The Service Key Decoder after start-up (R150). That no rise of KEY is known is the model's choice (assumption 23). -/
def Skd.afterStartUp (low : Bool) : Skd where
  low := low
  awaitRise := low
  fellAt := none
  roseAt := none
  train := none
  lastTrain := 0
  mode := .normal
  hold := none

/-- The empty alert list (R164); ATTN is released during start-up. -/
def Alt.afterStartUp : Alt where
  records := []
  nextSeq := 1
  overflow := false
  attn := false

/-- The empty snapshot stack (R164). -/
def Sns.afterStartUp : Sns where
  stack := []
  nextNumber := 1

/-- The link after start-up (R167, R175). -/
def Lnk.afterStartUp (lineLow : Bool) : Lnk where
  receiver := .hunting
  lineLow := lineLow
  serving := none
  waiting := none
  order := []
  sending := none
  reset := .none

/-- The STORE_DEFAULTS alert as start-up places it (R164, R180). -/
def AlertRecord.storeDefaults : AlertRecord where
  seq := 1
  kind := .storeDefaults
  severity := .warn
  source := .none
  sub := none
  detail := none
  threshold := none
  regime := 0
  deviceSeconds := 0
  farm := none
  repeats := 1
  service := false
  test := false
  snapshot := .absent

/-- The part right after reset: powered on with a blank store, its start-up ended, at tick 0 (R180 and the reset rule of each
chapter; assumption 4). -/
def State.reset : State where
  phase := .running
  now := 0
  trk :=
    ⟨Track.afterStartUp false TrackSettings.defaults.tl, Track.afterStartUp false TrackSettings.defaults.th,
      Track.afterStartUp false TrackSettings.defaults.tg⟩
  acq := ⟨ScanTable.defaults, ⟨none, none, none⟩, none⟩
  sav :=
    ⟨List.replicate 2 (Sav.afterStartUp InputSettings.defaults (some .tl) 256)
      ++ List.replicate 4 (Sav.afterStartUp InputSettings.defaults (some .th) 256), rfl⟩
  ind := Tab.replicate 6 Ind.afterStartUp
  gra := Gra.afterStartUp GridSettings.defaults
  rgc := Rgc.afterStartUp RegimeSettings.defaults
  icm := { Icm.afterStartUp IceSettings.defaults [] 0 0 .clear with nextEval := some 60000000 }
  msc := Tab.replicate 16 Item.unused
  skd := Skd.afterStartUp false
  alt := ⟨[AlertRecord.storeDefaults], 2, false, true⟩
  sns := Sns.afterStartUp
  lnk := Lnk.afterStartUp false
  clk := ⟨0, 2000000, none⟩
  sst := ⟨.blank, none, false, false, false, 0⟩
  pending := []

end Sys2Proof.Machine
end

