-- ==== Sys2Proof/Machine/Ops.lean ====
section
/-! DEFINITION. The operations every block shares: the part's arithmetic (00_scope.md, *Arithmetic*), the order tables (R88),
access to a channel's, an input's or an item's state, the clock, raising an alert (R152 to R155), and taking a snapshot (R161). -/

namespace Sys2Proof

/-- The value of a channel. -/
def PerChannel.get {α : Type} (t : PerChannel α) : Channel → α
  | .tl => t.tl
  | .th => t.th
  | .tg => t.tg

/-- The values with a channel's replaced. -/
def PerChannel.set {α : Type} (t : PerChannel α) (ch : Channel) (x : α) : PerChannel α :=
  match ch with
  | .tl => { t with tl := x }
  | .th => { t with th := x }
  | .tg => { t with tg := x }

/-- Every channel's value changed by `f`. -/
def PerChannel.map {α β : Type} (f : α → β) (t : PerChannel α) : PerChannel β :=
  ⟨f t.tl, f t.th, f t.tg⟩

namespace Machine

/-! ### Arithmetic -/

/-- The largest value of a 32-bit count. -/
def max32 : Nat := 4294967295

/-- The largest value of a 16-bit count. -/
def max16 : Nat := 65535

/-- The sum of a counter that saturates at `top`. -/
def satAdd (top a b : Nat) : Nat := min top (a + b)

/-- A 32-bit count that wraps. -/
def wrap32 (n : Nat) : Nat := n % (max32 + 1)

/-- Arithmetic right shift: division by a power of two that rounds toward minus infinity. -/
def sar (x : Int) (k : Nat) : Int := x / (2 ^ k : Nat)

/-- `x` limited to `lo` to `hi`. -/
def clampInt (lo hi x : Int) : Int := max lo (min hi x)

/-- The digits of `isqrt` below bit `k`, given the digits above it. -/
def isqrtFrom (x : Nat) : Nat → Nat → Nat
  | 0, r => r
  | k + 1, r => isqrtFrom x k (if (r + 2 ^ k) * (r + 2 ^ k) ≤ x then r + 2 ^ k else r)

/-- The integer square root: the largest number whose square does not exceed `x`. -/
def isqrt (x : Nat) : Nat := isqrtFrom x (Nat.log2 x / 2 + 1) 0

/-- The floor of `a / b`; where `b` is 0 the spec gives no result and the value is free (assumption 1). -/
def floorDiv (a b : Nat) : Nat := if b = 0 then Config.quotientByZero a else a / b

/-- Ticks in a second (2 MHz). -/
def ticksPerSecond : Nat := 2000000

/-- The whole seconds from `now` to `expiry`, rounded up. -/
def secondsLeft (expiry now : Tick) : Nat := (expiry - now + (ticksPerSecond - 1)) / ticksPerSecond

/-- `f` applied `n` times. -/
def repeatTimes {α : Type} (f : α → α) : Nat → α → α
  | 0, x => x
  | n + 1, x => repeatTimes f n (f x)

/-! ### The order tables (R88) -/

/-- S[0] to S[64]. The rest of both tables follows by the symmetry R88 states and the cosine's quarter-turn shift. -/
def sineQuarter : List Int :=
  [0, 402, 804, 1205, 1606, 2006, 2404, 2801, 3196, 3590, 3981, 4370, 4756, 5139, 5520, 5897, 6270, 6639, 7005, 7366, 7723,
    8076, 8423, 8765, 9102, 9434, 9760, 10080, 10394, 10702, 11003, 11297]
  ++ [11585, 11866, 12140, 12406, 12665, 12916, 13160, 13395, 13623, 13842, 14053, 14256, 14449, 14635, 14811, 14978, 15137,
    15286, 15426, 15557, 15679, 15791, 15893, 15986, 16069, 16143, 16207, 16261, 16305, 16340, 16364, 16379, 16384]

/-- The sine of the first half turn, `j` from 0 to 128. -/
def sineHalf (j : Nat) : Int := sineQuarter.getD (if j ≤ 64 then j else 128 - j) 0

/-- S[j], with `j` taken mod 256. -/
def sine (j : Nat) : Int := if j % 256 < 128 then sineHalf (j % 256) else -sineHalf (j % 256 - 128)

/-- C[j] = S[j + 64], with `j` taken mod 256. -/
def cosine (j : Nat) : Int := sine (j + 64)

/-- The table index j(m, i) at N samples per revolution (R88). -/
def orderIndex (m i samples : Nat) : Nat := m * i * (256 / samples) % 256

/-- The sum of the values from slot `i` on, each multiplied by the table at its index for order `m`. -/
def orderSum (table : Nat → Int) (m samples : Nat) : Nat → List Int → Int
  | _, [] => 0
  | i, v :: vs => v * table (orderIndex m i samples) + orderSum table m samples (i + 1) vs

/-- floor(isqrt(re² + im²) / (N * 8192)) for order `m` over `values` (R61, R91). -/
def orderAmplitude (m samples : Nat) (values : List Int) : Nat :=
  let re := orderSum cosine m samples 0 values
  let im := orderSum sine m samples 0 values
  isqrt (re * re + im * im).toNat / (samples * 8192)

/-! ### Parts of the state -/

/-- All six VA inputs, in order. -/
def allVa : List (Fin 6) := [0, 1, 2, 3, 4, 5]

/-- The six grid inputs, GV1 to GV3 and GI1 to GI3. -/
def allGrid : List (Fin 6) := [0, 1, 2, 3, 4, 5]

/-- The sixteen item slots, in order. -/
def allSlots : List (Fin 16) := [0, 1, 2, 3, 4, 5, 6, 7, 8, 9, 10, 11, 12, 13, 14, 15]

/-- The number of a GV input among the grid inputs, GV1 to GV3 as 0 to 2. -/
def gvIndex (phase : Fin 3) : Fin 6 := ⟨phase.val, Nat.lt_of_lt_of_le phase.isLt (by decide)⟩

/-- The number of a GI input among the grid inputs, GI1 to GI3 as 3 to 5. -/
def giIndex (phase : Fin 3) : Fin 6 := ⟨phase.val + 3, Nat.add_lt_add_right phase.isLt 3⟩

/-- The number of a grid input; a VA input has none. -/
def gridIndex : Input → Option (Fin 6)
  | .va _ => none
  | .gv p => some (gvIndex p)
  | .gi p => some (giIndex p)

/-- The grid input of a number. -/
def gridInputOf (g : Fin 6) : Input :=
  if h : g.val < 3 then .gv ⟨g.val, h⟩ else .gi ⟨g.val - 3, Nat.sub_lt_left_of_lt_add (Nat.le_of_not_lt h) g.isLt⟩

/-- The number of a VA input; a grid input has none. -/
def vaIndex : Input → Option (Fin 6)
  | .va i => some i
  | .gv _ => none
  | .gi _ => none

def State.track (s : State) (ch : Channel) : Track := s.trk.get ch

def State.setTrack (s : State) (ch : Channel) (t : Track) : State := { s with trk := s.trk.set ch t }

def State.setSav (s : State) (i : Fin 6) (v : Sav) : State := { s with sav := s.sav.set i v }

def State.setInd (s : State) (i : Fin 6) (v : Ind) : State := { s with ind := s.ind.set i v }

def State.setItem (s : State) (i : Fin 16) (v : Item) : State := { s with msc := s.msc.set i v }

def State.setGridInput (s : State) (g : Fin 6) (v : GridInput) : State :=
  { s with gra := { s.gra with inputs := s.gra.inputs.set g v } }

/-! ### The clock -/

/-- Time goes on to `t`; it never goes back. -/
def State.advance (s : State) (t : Tick) : State := { s with now := max s.now t }

/-- `f` at the instant `t`, while the part runs. Without supply nothing happens and time is not counted; during start-up time
goes on and nothing else happens (chapter 11). -/
def State.whileRunning (s : State) (t : Tick) (f : State → State) : State :=
  match s.phase with
  | .off => s
  | .startup => s.advance t
  | .running => f (s.advance t)

/-- `f` at the instant that the state itself fixes for an event, while the part runs; without such an instant the event does
not happen. -/
def State.atDue (s : State) (due : Option Tick) (f : State → State) : State :=
  match s.phase, due with
  | .running, some t => f (s.advance t)
  | _, _ => s

/-! ### Tracking state read by other blocks -/

/-- LOCKED or HOLDOVER: the channel follows pulses and has strobes (§1.3). -/
def LockState.following : LockState → Bool
  | .locked | .holdover => true
  | .off | .acquiring | .stalled => false

/-- The rate a channel reports (R17). -/
def Track.rate (ch : Channel) (t : Track) : Nat :=
  if t.lock.following then
    match ch with
    | .tg => floorDiv 2000000000 (t.tprev.getD 0)
    | _ =>
      match t.lastTicks with
      | none => 0
      | some r => floorDiv 12000000000 r
  else 0

/-- The speed of an input's owning channel, 0 without one (R100, R124). -/
def State.ownerSpeed (s : State) : Option Channel → Nat
  | none => 0
  | some ch => (s.track ch).rate ch

/-! ### Scan lists -/

/-- The entries of a list from its start to its first stop mark, inclusive (R24). -/
def listFrom : List ScanEntry → List Input
  | [] => []
  | e :: rest => e.input.toList ++ if e.stop then [] else listFrom rest

/-- A channel's scan list, empty when it has none (R24). -/
def ScanTable.list (t : ScanTable) (ch : Channel) : List Input :=
  match t.starts.get ch with
  | none => []
  | some start => listFrom (t.entries.list.drop start.val)

/-- The channel that owns an input (R24). -/
def ScanTable.owner (t : ScanTable) (i : Input) : Option Channel :=
  if i ∈ t.list .tl then some .tl
  else if i ∈ t.list .th then some .th
  else if i ∈ t.list .tg then some .tg
  else none

/-- A channel's scan list in force. -/
def State.scanList (s : State) (ch : Channel) : List Input := s.acq.table.list ch

/-- The VA inputs of a channel's list, in list order. -/
def State.vaList (s : State) (ch : Channel) : List (Fin 6) := (s.scanList ch).filterMap vaIndex

/-- The present grid inputs, in the order of the TG list (§4.1). -/
def State.present (s : State) : List (Fin 6) := (s.scanList .tg).filterMap gridIndex

/-! ### Alerts (R151 to R155) -/

/-- What a raising block supplies (R151). -/
structure Alert where
  kind : AlertKind
  severity : Severity
  source : Source
  sub : Option Nat
  detail : Option Int
  threshold : Option Int
  snapshot : SnapField
deriving DecidableEq, Repr

/-- The alert with the stamps of this instant (R152), as a record with repeat 1 (R153). -/
def Alert.stamped (a : Alert) (s : State) : AlertRecord where
  seq := 0
  kind := a.kind
  severity := a.severity
  source := a.source
  sub := a.sub
  detail := a.detail
  threshold := a.threshold
  regime := s.rgc.regime
  deviceSeconds := s.clk.deviceSeconds
  farm := s.clk.farm
  repeats := 1
  service := s.skd.mode = .service
  test := s.skd.mode = .test
  snapshot := a.snapshot

/-- The same kind, source and sub-source (R151). -/
def AlertRecord.same (r q : AlertRecord) : Bool := r.kind = q.kind ∧ r.source = q.source ∧ r.sub = q.sub

/-- The snapshot field after a merge (R154). -/
def SnapField.mergedWith : SnapField → SnapField → SnapField
  | old, .absent => old
  | _, .number n => .number n
  | _, .noSnapshot => .noSnapshot

/-- A record that a stamped alert merges into (R154). -/
def AlertRecord.mergedWith (old new : AlertRecord) : AlertRecord :=
  { old with
    severity := new.severity
    detail := new.detail
    threshold := new.threshold
    regime := new.regime
    deviceSeconds := new.deviceSeconds
    farm := new.farm
    repeats := satAdd 255 old.repeats 1
    service := new.service
    test := new.test
    snapshot := old.snapshot.mergedWith new.snapshot }

/-- A new record at the end of the list, with the next sequence number (R153). -/
def Alt.create (l : Alt) (r : AlertRecord) : Alt :=
  { l with records := l.records ++ [{ r with seq := l.nextSeq }], nextSeq := wrap32 (l.nextSeq + 1) }

/-- The list without its oldest record of a severity, and the overflow flag set (R155). -/
def Alt.evict (l : Alt) (v : Severity) : Alt :=
  { l with records := l.records.eraseP (fun r => r.severity = v), overflow := true }

/-- A stamped alert is merged, creates a record, evicts one, or is dropped (R153 to R155). -/
def Alt.place (l : Alt) (r : AlertRecord) : Alt :=
  if l.records.any (fun x => x.same r) then
    { l with records := l.records.map fun x => if x.same r then x.mergedWith r else x }
  else if l.records.length < 32 then l.create r
  else if l.records.any (fun x => x.severity = .note) then (l.evict .note).create r
  else if r.severity = .alarm ∧ l.records.any (fun x => x.severity = .warn) then (l.evict .warn).create r
  else { l with overflow := true }

/-- ATTN follows the list once start-up has ended and is released before (R157). -/
def Alt.withAttn (phase : Phase) (l : Alt) : Alt :=
  { l with attn := phase = .running ∧ l.records ≠ [] }

/-- Raise an alert: stamp it and place it, and let ATTN follow. -/
def State.raise (s : State) (a : Alert) : State :=
  { s with alt := (s.alt.place (a.stamped s)).withAttn s.phase }

/-- Raise alerts in order. -/
def State.raiseAll (s : State) (as : List Alert) : State := as.foldl State.raise s

/-! ### Snapshots (R160, R161) -/

/-- The stack takes a snapshot: it has room and a number is left. -/
def Sns.takes (t : Sns) : Bool := t.stack.length < 6 ∧ t.nextNumber ≤ max32

/-- What a request to take a snapshot hands back now. -/
def Sns.offer (t : Sns) : SnapField := if t.takes then .number t.nextNumber else .noSnapshot

/-- The snapshot of this instant with the next number. -/
def State.stampSnapshot (s : State) (b : SnapBody) : Snapshot where
  number := s.sns.nextNumber
  deviceSeconds := s.clk.deviceSeconds
  farm := s.clk.farm
  service := s.skd.mode = .service
  test := s.skd.mode = .test
  body := b

/-- A request to take a snapshot (R161). -/
def State.takeSnapshot (s : State) (b : SnapBody) : State :=
  { s with
    sns := if s.sns.takes then ⟨s.sns.stack ++ [s.stampSnapshot b], s.sns.nextNumber + 1⟩ else s.sns }

/-! ### TSA records (R46, R50) -/

/-- The averaged values a_0 to a_{N−1} (R46). -/
def Sav.averages (v : Sav) : List Int := (v.acc.take v.samples).map fun a => sar a 8

/-- The record is warm, by the shift in force (R50). -/
def Sav.warm (v : Sav) : Bool := v.n ≥ 2 ^ v.settings.k

/-! ### The service mode -/

/-- Service hold: the mode is SERVICE or TEST (R147). -/
def State.serviceHold (s : State) : Bool := s.skd.mode ≠ .normal

end Machine

end Sys2Proof
end

