-- ==== Sys2Proof/Machine/Flags.lean ====
section
/-! DEFINITION. Flags, severities and levels: their orders, and the codes and flag bits under which the line carries them
(R170, R176). -/

namespace Sys2Proof.Machine

/-- NORMAL below WARN below ALARM (§6.3). -/
def Level.rank : Level → Nat
  | .normal => 0
  | .warn => 1
  | .alarm => 2

/-- One step down (R96). -/
def Level.down : Level → Level
  | .normal => .normal
  | .warn => .normal
  | .alarm => .warn

/-- The severity of a change to a level (R99). -/
def Level.severity : Level → Severity
  | .normal => .note
  | .warn => .warn
  | .alarm => .alarm

/-- The damage weight of a highest level (R104). -/
def Level.weight : Level → Nat
  | .normal => 0
  | .warn => 1
  | .alarm => 8

/-- The higher of two levels. -/
def Level.max (a b : Level) : Level := if a.rank < b.rank then b else a

/-- UNUSED below RUNNING below DUE_SOON below DUE below OVERDUE (R134). -/
def ItemState.rank : ItemState → Nat
  | .unused => 0
  | .running => 1
  | .dueSoon => 2
  | .due => 3
  | .overdue => 4

/-- The severity of an upward move to an item state; RUNNING and UNUSED raise nothing (R135). -/
def ItemState.severity : ItemState → Option Severity
  | .unused | .running => none
  | .dueSoon => some .note
  | .due => some .warn
  | .overdue => some .alarm

/-- The status codes (R170). -/
def Status.code : Status → Nat
  | .ok => 0x00
  | .staged => 0x01
  | .empty => 0x02
  | .badFrame => 0x10
  | .badType => 0x11
  | .badLength => 0x12
  | .badValue => 0x13
  | .conflict => 0x14
  | .busy => 0x15
  | .notInService => 0x16
  | .timeUnset => 0x17
  | .badState => 0x18
  | .storeFault => 0x19

/-- The kind codes of an alert record (R176). -/
def AlertKind.code : AlertKind → Nat
  | .vibLevel => 1
  | .iceImbalance => 2
  | .sensorSaturated => 3
  | .trackLost => 4
  | .gridRange => 5
  | .gridHarmonic => 6
  | .gridThd => 7
  | .iceState => 8
  | .ambientStale => 9
  | .itemState => 10
  | .serviceRecorded => 11
  | .serviceMode => 12
  | .storeDefaults => 13
  | .storeFault => 14

/-- The severity codes of an alert record (R176). -/
def Severity.code : Severity → Nat
  | .note => 1
  | .warn => 2
  | .alarm => 3

/-- 1 for true, 0 for false. -/
def bit (b : Bool) : Nat := if b then 1 else 0

/-- The flags byte of an alert record (R176). -/
def AlertRecord.flags (r : AlertRecord) : Nat :=
  bit r.detail.isSome + 2 * bit (r.detail.getD 0 < 0) + 4 * bit r.threshold.isSome + 8 * bit (r.threshold.getD 0 < 0)
    + 16 * bit r.farm.isSome + 32 * bit r.service + 64 * bit r.test

/-- A GRID snapshot carries P_kW (R160). -/
def SnapBody.hasPower : SnapBody → Bool
  | .tsa .. => false
  | .grid _ _ _ pkw => pkw.isSome

/-- The flags byte of a snapshot header (R176). -/
def Snapshot.flags (p : Snapshot) : Nat :=
  bit p.farm.isSome + 2 * bit p.service + 4 * bit p.test + 8 * bit p.body.hasPower

/-- The lock states in the order of §1.3's table. -/
def LockState.code : LockState → Nat
  | .off => 0
  | .acquiring => 1
  | .locked => 2
  | .holdover => 3
  | .stalled => 4

/-- CLEAR, WATCH, SUSPECT, ICED and THAW in the order of R118's table. -/
def IcingState.code : IcingState → Nat
  | .clear => 0
  | .watch => 1
  | .suspect => 2
  | .iced => 3
  | .thaw => 4

/-- NORMAL, SERVICE, TEST (§8.4). -/
def ServiceMode.code : ServiceMode → Nat
  | .normal => 0
  | .service => 1
  | .test => 2

/-- True, false or unknown, in the order of R114. -/
def criterionCode : Option Bool → Nat
  | some true => 0
  | some false => 1
  | none => 2

/-- CONFIRM or CLEAR, in the order of R118. -/
def RunKind.code : RunKind → Nat
  | .confirm => 0
  | .clear => 1

end Sys2Proof.Machine
end

