-- ==== Sys2Proof/Machine/Operands.lean ====
section
/-! DEFINITION. The operands of the requests: the numbers by which a field names a channel, an input, an item slot or a named
value (R166, R176), both ways. -/

namespace Sys2Proof.Machine

/-- The number carried for a named value in the place of a number: none, empty, all (R166). -/
def namedValue : Nat := 255

/-- TL 0, TH 1, TG 2 (R176). -/
def channelOf : Nat → Option Channel
  | 0 => some .tl
  | 1 => some .th
  | 2 => some .tg
  | _ => none

/-- The number of a channel (R176). -/
def channelNumber : Channel → Nat
  | .tl => 0
  | .th => 1
  | .tg => 2

/-- A VA input by its number, 0 to 5 (R176). -/
def vaOf (raw : Nat) : Option (Fin 6) := if h : raw < 6 then some ⟨raw, h⟩ else none

/-- A grid input by its number, GV1 to GV3 as 6 to 8 and GI1 to GI3 as 9 to 11 (R176). -/
def gridOf (raw : Nat) : Option (Fin 6) := if raw < 6 then none else vaOf (raw - 6)

/-- An input by its number, 0 to 11 (R176). -/
def inputOf (raw : Nat) : Option Input :=
  if raw < 6 then (vaOf raw).map .va else (gridOf raw).map gridInputOf

/-- The number of an input (R176). -/
def inputNumber : Input → Nat
  | .va i => i.val
  | .gv p => p.val + 6
  | .gi p => p.val + 9

/-- An item slot by its number. -/
def slotOf (raw : Nat) : Option (Fin 16) := if h : raw < 16 then some ⟨raw, h⟩ else none

/-- A regime or profile by its number. -/
def profileOf (raw : Nat) : Option (Fin 8) := if h : raw < 8 then some ⟨raw, h⟩ else none

/-- An owning channel as it is carried: its number, or the named value for none (R166). -/
def ownerNumber : Option Channel → Nat
  | none => namedValue
  | some ch => channelNumber ch

/-- The bases in the order R132 lists them. -/
def basisOf : Nat → Option Basis
  | 0 => some .none
  | 1 => some .operating
  | 2 => some .revolutions
  | 3 => some .energy
  | 4 => some .damage
  | 5 => some .ice
  | 6 => some .calendar
  | _ => none

def basisNumber : Basis → Nat
  | .none => 0
  | .operating => 1
  | .revolutions => 2
  | .energy => 3
  | .damage => 4
  | .ice => 5
  | .calendar => 6

/-- The source a SET_ITEM names, where the basis tells an input from a channel; `none` when it is not the one R133 requires. -/
def itemSourceOf (b : Basis) (raw : Nat) : Option ItemSource :=
  match b with
  | .damage => (vaOf raw).map .va
  | .revolutions =>
    match channelOf raw with
    | some .tl => some (.channel .tl)
    | some .th => some (.channel .th)
    | _ => none
  | _ => if raw = namedValue then some .none else none

/-- An item's source as it is carried. -/
def itemSourceNumber : ItemSource → Nat
  | .none => namedValue
  | .va i => i.val
  | .channel ch => channelNumber ch

/-- A start pointer: an entry number, the named value for none, or neither (R26). -/
def startOf (raw : Nat) : Option (Option (Fin 24)) :=
  if h : raw < 24 then some (some ⟨raw, h⟩) else if raw = namedValue then some none else none

/-- A scan-table entry's input: one of the twelve, the named value for empty, or neither (R26). -/
def entryInputOf (raw : Nat) : Option (Option Input) :=
  match inputOf raw with
  | some i => some (some i)
  | none => if raw = namedValue then some none else none

end Sys2Proof.Machine
end

