-- ==== Sys2Proof/Machine/Fields.lean ====
section
/-! DEFINITION. The fields a reply is made of (R166, R170), and the answer that serving a request gives. -/

namespace Sys2Proof.Machine

/-- A one-byte field. -/
def u1 (v : Nat) : Field := ⟨1, v⟩

/-- A two-byte field. -/
def u2 (v : Nat) : Field := ⟨2, v⟩

/-- A four-byte field. -/
def u4 (v : Nat) : Field := ⟨4, v⟩

/-- A signed two-byte field. -/
def i2 (v : Int) : Field := ⟨2, v⟩

/-- A mark or a yes-or-no field: 1 when it holds (assumption 12). -/
def mark (b : Bool) : Field := u1 (bit b)

/-- A field that may be absent: a presence mark and the field, carried as 0 when absent (R166). -/
def optional (width : Nat) (v : Option Int) : List Field := [mark v.isSome, ⟨width, v.getD 0⟩]

/-- `optional` over a whole number. -/
def optionalNat (width : Nat) (v : Option Nat) : List Field := optional width (v.map Int.ofNat)

/-- A group of fields that may be absent: a presence mark and the fields, carried as 0 when absent (R166). -/
def optionalGroup (isPresent : Bool) (fs : List Field) : List Field :=
  mark isPresent :: if isPresent then fs else fs.map fun f => { f with value := 0 }

/-- What serving a request gives: a status and the fields after it. -/
structure Answer where
  status : Status
  fields : List Field
deriving DecidableEq, Repr

/-- An answer of a status alone. -/
def Answer.bare (st : Status) : Answer := ⟨st, []⟩

/-- An OK answer with fields. -/
def Answer.ok (fields : List Field) : Answer := ⟨.ok, fields⟩

/-- The fields of a channel's settings in the order of R2; on and off, rising and falling are numbered as R1 lists them. -/
def TrackSettings.fields (t : TrackSettings) : List Field :=
  [u1 (if t.enable then 0 else 1), u1 (match t.edge with | .rising => 0 | .falling => 1), u1 t.z, u2 t.n, u4 t.tmin, u4 t.tmax,
    u2 t.filter]

/-- The fields of an item in the order of R132. -/
def Item.fields (it : Item) : List Field :=
  [u2 it.tag, u1 (basisNumber it.basis), u1 (itemSourceNumber it.source), u4 it.interval, u4 it.lead, u4 it.accrued,
    u1 it.state.rank]
  ++ optionalNat 4 it.calendarStart ++ optionalNat 4 it.lastDone ++ [u2 it.doneCount]

/-- The source type and source number of an alert record (R176). -/
def Source.fields : Source → List Field
  | .none => [u1 0, u1 0]
  | .input i => [u1 1, u1 (inputNumber i)]
  | .channel ch => [u1 2, u1 (channelNumber ch)]
  | .slot i => [u1 3, u1 i.val]

/-- The snapshot field of an alert record (R176). -/
def SnapField.fields : SnapField → List Field
  | .absent => [u1 0, u4 0]
  | .number n => [u1 1, u4 n]
  | .noSnapshot => [u1 2, u4 0]

/-- The 33 bytes of an alert record in a FETCH reply (R176). -/
def AlertRecord.fields (r : AlertRecord) : List Field :=
  [u4 r.seq, u1 r.kind.code, u1 r.severity.code] ++ r.source.fields
  ++ [u1 (r.sub.getD namedValue), u1 r.flags, u4 (r.detail.getD 0).natAbs, u4 (r.threshold.getD 0).natAbs, u1 r.regime.val,
    u1 r.repeats, u4 r.deviceSeconds, u4 (r.farm.getD 0)]
  ++ r.snapshot.fields

/-- A snapshot's kind code and source number (R176). -/
def SnapBody.kindFields : SnapBody → List Field
  | .tsa va .. => [u1 1, u1 (inputNumber (.va va))]
  | .grid g .. => [u1 2, u1 (inputNumber (gridInputOf g))]

/-- A snapshot's kind fields, offsets 17 to 25 of the header; a wide speed is carried as its largest value (R176). -/
def SnapBody.fields : SnapBody → List Field
  | .tsa _ _ n samples speed regime => [u2 n, u2 samples, u4 (min max32 speed), u1 regime.val]
  | .grid _ _ thd pkw => [u2 thd, i2 (pkw.getD 0), u4 0, u1 0]

/-- A snapshot's values, each as it is carried: TSA 2 bytes signed, GRID 4 bytes (R176). -/
def SnapBody.values : SnapBody → List Field
  | .tsa _ vs .. => vs.map i2
  | .grid _ vs .. => vs.map u4

end Sys2Proof.Machine
end

