-- ==== Sys2Proof/Machine/Regime.lean ====
section
/-! DEFINITION. Regime Classifier (chapter 5, R76 to R86). -/

namespace Sys2Proof.Machine

/-- Both counters at 0, the level kept (R83, R97). -/
def LevelState.zeroed (l : LevelState) : LevelState := { l with rise := 0, fall := 0 }

/-- Every counter of an input at 0, the levels kept (R83, R97). -/
def Ind.zeroed (v : Ind) : Ind := { v with levels := v.levels.map LevelState.zeroed }

/-- Recompute the active profile; when it differs from the one before, every counter of every input becomes 0 (R83). -/
def State.refreshActive (s : State) : State :=
  let a := s.rgc.settings.map.get s.rgc.regime
  { s with
    rgc := { s.rgc with active := a }
    ind := if a = s.rgc.active then s.ind else s.ind.map Ind.zeroed }

/-- The regime becomes `r`, and the active profile follows (R83). -/
def State.enterRegime (s : State) (r : Fin 8) : State :=
  ({ s with rgc := { s.rgc with regime := r } }).refreshActive

/-- TL has left LOCKED and HOLDOVER: PARKED, no candidate (R77). -/
def State.park (s : State) : State :=
  ({ s with rgc := { s.rgc with candidate := none } }).enterRegime 0

/-- TL has entered LOCKED from ACQUIRING: IDLING, no candidate (R78). -/
def State.unpark (s : State) : State :=
  ({ s with rgc := { s.rgc with candidate := none } }).enterRegime 1

/-- The class of a block power: 1 plus the number of breakpoints at or below it (R79). -/
def powerClass (b : Tab 6 Nat) (pkw : Int) : Fin 8 :=
  ⟨(b.list.filter fun (x : Nat) => decide ((x : Int) ≤ pkw)).length + 1,
    Nat.lt_of_le_of_lt (Nat.succ_le_succ (Nat.le_trans (List.length_filter_le _ _) (Nat.le_of_eq b.len)))
      (show 7 < 8 by decide)⟩

/-- The candidate after a class is formed (R80). -/
def candidateAfter (before : Option Candidate) (c : Fin 8) : Candidate :=
  match before with
  | some d => if d.regime = c then ⟨c, 2⟩ else ⟨c, 1⟩
  | none => ⟨c, 1⟩

/-- A block close with power: while TL is LOCKED or HOLDOVER its class is set against the candidate, and two equal classes in a
row change the regime (R79, R80). -/
def State.classify (s : State) (pkw : Int) : State :=
  if s.trk.tl.lock.following then
    let c := powerClass s.rgc.settings.breakpoints pkw
    let d := candidateAfter s.rgc.candidate c
    let t := { s with rgc := { s.rgc with candidate := some d } }
    if d.count = 2 ∧ c ≠ s.rgc.regime then t.enterRegime c else t
  else s

/-- Power has become unknown: the candidate becomes absent (R81). -/
def State.clearCandidate (s : State) : State := { s with rgc := { s.rgc with candidate := none } }

/-! ### Requests -/

/-- Each entry is below the next. -/
def ascending : List Nat → Bool
  | a :: b :: rest => a < b && ascending (b :: rest)
  | _ => true

/-- The fields are in range and the breakpoints ascend strictly (R84). -/
def regimeFieldsValid (f : RegimeFields) : Bool :=
  f.breakpoints.list.all (· ≤ 32767) && ascending f.breakpoints.list && f.map.list.all (· ≤ 7)

/-- A map entry as a profile; entries above 7 are refused before. -/
def mapEntry (raw : Nat) : Fin 8 := ⟨raw % 8, Nat.mod_lt raw (by decide)⟩

/-- SET_REGIME (R84). -/
def serveSetRegime (f : RegimeFields) (s : State) : State × Answer :=
  if regimeFieldsValid f then
    (({ s with
        rgc :=
          { s.rgc with
            candidate := if f.breakpoints = s.rgc.settings.breakpoints then s.rgc.candidate else none
            settings := { s.rgc.settings with breakpoints := f.breakpoints, map := f.map.map mapEntry } } }).refreshActive,
      .bare .ok)
  else (s, .bare .badValue)

/-- The row's P is from 1 to 15, its levels fit, and no pair has both levels non-zero with W not below L (R82, R85). -/
def profileFieldsValid (f : ProfileFields) : Bool :=
  (1 ≤ f.persistence && f.persistence ≤ 15)
    && f.levels.list.all fun p =>
      p.warn ≤ max16 && p.alarm ≤ max16 && (p.warn == 0 || p.alarm == 0 || decide (p.warn < p.alarm))

/-- Write an input's row of a profile; when the profile is active the input's counters become 0 (R85). -/
def State.writeRow (s : State) (profile : Fin 8) (va : Fin 6) (row : Row) : State :=
  { s with
    rgc :=
      { s.rgc with
        settings :=
          { s.rgc.settings with
            profiles := s.rgc.settings.profiles.set profile ((s.rgc.settings.profiles.get profile).set va row) } }
    ind := if profile = s.rgc.active then s.ind.set va (s.ind.get va).zeroed else s.ind }

/-- SET_PROFILE (R85). -/
def serveSetProfile (f : ProfileFields) (s : State) : State × Answer :=
  match profileOf f.profile, vaOf f.input with
  | some profile, some va =>
    if profileFieldsValid f then (s.writeRow profile va ⟨f.levels, f.persistence⟩, .bare .ok) else (s, .bare .badValue)
  | _, _ => (s, .bare .badValue)

/-- A row's fields: the eight pairs of W and L, and P. -/
def Row.fields (r : Row) : List Field :=
  r.levels.list.flatMap (fun p => [u2 p.warn, u2 p.alarm]) ++ [u1 r.persistence]

/-- The power state, and the last P_kW when it is known (R71, R73, R86); known and unknown are numbered as R71 lists them. -/
def Gra.powerFields (g : Gra) : List Field :=
  u1 (if g.power.isSome then 0 else 1) :: optional 2 (g.power.map KnownPower.pkw)

/-- READ_REGIME's fields without the row. -/
def State.regimeFields (s : State) : List Field :=
  [u1 s.rgc.regime.val, u1 s.rgc.active.val]
    ++ optionalGroup s.rgc.candidate.isSome
      [u1 ((s.rgc.candidate.map fun d => d.regime.val).getD 0), u1 ((s.rgc.candidate.map Candidate.count).getD 0)]
    ++ s.gra.powerFields ++ [u1 s.trk.tl.lock.code] ++ s.rgc.settings.breakpoints.list.map u2
    ++ s.rgc.settings.map.list.map fun r => u1 r.val

/-- A row's row in the profile table. -/
def State.row (s : State) (profile : Fin 8) (va : Fin 6) : Row := (s.rgc.settings.profiles.get profile).get va

/-- READ_REGIME (R86). -/
def serveReadRegime (sel : Option RowSelection) (s : State) : State × Answer :=
  match sel with
  | none => (s, .ok (s.regimeFields ++ optionalGroup false (s.row 0 0).fields))
  | some r =>
    match profileOf r.profile, vaOf r.input with
    | some profile, some va => (s, .ok (s.regimeFields ++ optionalGroup true (s.row profile va).fields))
    | _, _ => (s, .bare .badValue)

end Sys2Proof.Machine
end

