-- ==== Sys2Proof/Machine/Maintenance.lean ====
section
/-! DEFINITION. Maintenance Scheduler (chapter 8, R132 to R143). -/

namespace Sys2Proof.Machine

/-- Native units in a display unit (R133). -/
def Basis.factor : Basis → Nat
  | .none => 1
  | .operating => 3600
  | .revolutions => 1000
  | .energy => 1000
  | .damage => 1
  | .ice => 1
  | .calendar => 86400

/-- The state of an item in use with this count: the highest whose threshold the count satisfies (R134). -/
def itemStateOf (interval lead accrued : Nat) : ItemState :=
  if accrued ≥ interval + lead then .overdue
  else if accrued ≥ interval then .due
  else if accrued ≥ interval - lead then .dueSoon
  else .running

/-- An item's state by its fields (R132, R134). -/
def Item.computedState (it : Item) : ItemState :=
  match it.basis with
  | .none => .unused
  | b => itemStateOf (it.interval * b.factor) (it.lead * b.factor) it.accrued

/-- The accrued count in display units (R135). -/
def Item.displayed (it : Item) : Nat := it.accrued / it.basis.factor

/-- The threshold of a state in display units (R135). -/
def Item.threshold (it : Item) : ItemState → Nat
  | .unused | .running => 0
  | .dueSoon => it.interval - it.lead
  | .due => it.interval
  | .overdue => it.interval + it.lead

/-- The alert of a recomputation that leaves `it` and found the state `before`: one for an upward move to DUE_SOON or above
(R135). -/
def Item.moveAlert (slot : Fin 16) (before : ItemState) (it : Item) : Option Alert :=
  if before.rank < it.state.rank then
    it.state.severity.map fun v =>
      { kind := .itemState, severity := v, source := .slot slot, sub := none, detail := some it.displayed,
        threshold := some (it.threshold it.state), snapshot := .absent }
  else none

/-- Write an item with its state recomputed, and raise ITEM_STATE when that moves it upward (R134, R135). `it.state` is the
state before. -/
def State.recompute (s : State) (slot : Fin 16) (it : Item) : State :=
  (s.setItem slot { it with state := it.computedState }).raiseAll
    (Item.moveAlert slot it.state { it with state := it.computedState }).toList

/-- One accrual into one item it concerns (R136). -/
def State.accrueAt (concerns : Item → Bool) (amount : Nat) (s : State) (slot : Fin 16) : State :=
  let it := s.msc.get slot
  if concerns it then s.recompute slot { it with accrued := satAdd max32 it.accrued amount } else s

/-- An accrual event: it reaches every item it concerns, in slot order; an amount of 0 does nothing (R136). -/
def State.accrue (s : State) (concerns : Item → Bool) (amount : Nat) : State :=
  if amount = 0 then s else allSlots.foldl (State.accrueAt concerns amount) s

/-- Items of a basis without a source. -/
def onBasis (b : Basis) (it : Item) : Bool := it.basis = b

/-- REVOLUTIONS items of a shaft. -/
def onShaft (ch : Channel) (it : Item) : Bool := it.basis = .revolutions ∧ it.source = .channel ch

/-- DAMAGE items of an input. -/
def onInput (i : Fin 6) (it : Item) : Bool := it.basis = .damage ∧ it.source = .va i

/-- A CALENDAR item counts farm time from its start (R137). -/
def State.recountCalendar (farm : Nat) (s : State) (slot : Fin 16) : State :=
  let it := s.msc.get slot
  match it.basis, it.calendarStart with
  | .calendar, some start => s.recompute slot { it with accrued := farm - start }
  | _, _ => s

/-- Every CALENDAR item recounts while farm time is synced (R137). -/
def State.recountCalendars (s : State) : State :=
  match s.clk.farm with
  | none => s
  | some farm => allSlots.foldl (State.recountCalendar farm) s

/-- A CALENDAR item without a start takes the farm time just set as its start (R137). -/
def Item.withStart (farm : Nat) (it : Item) : Item :=
  if it.basis = .calendar ∧ it.calendarStart = none then { it with calendarStart := some farm } else it

/-- Each item's step at an advance of device seconds: OPERATING while the regime is 1 or above, and CALENDAR (R136, R137). -/
def State.secondForItems (s : State) : State :=
  (if s.rgc.regime.val ≥ 1 then s.accrue (onBasis .operating) 1 else s).recountCalendars

/-! ### SET_ITEM (R138, R139) -/

/-- The request's fields are in range (R138). -/
def itemFieldsInRange (f : ItemFields) : Bool :=
  f.tag ≤ max16 ∧ 1 ≤ f.interval ∧ f.interval ≤ 1000000 ∧ f.lead ≤ 1000000

/-- The calendar start an item takes when its count begins afresh: the current farm time for a CALENDAR item, while synced. -/
def freshStart (b : Basis) (farm : Option Nat) : Option Nat := if b = .calendar then farm else none

/-- The item an accepted request leaves, its state still the one before (R139). -/
def Item.rewritten (it : Item) (f : ItemFields) (b : Basis) (src : ItemSource) (farm : Option Nat) : Item :=
  let w := { it with tag := f.tag, source := src, interval := f.interval, lead := f.lead }
  if it.basis = b then
    match f.choice with
    | .keep => w
    | .zero => { w with accrued := 0, calendarStart := freshStart b farm }
  else
    { w with basis := b, accrued := 0, calendarStart := freshStart b farm, lastDone := none, doneCount := 0 }

/-- SET_ITEM (R138, R139). -/
def serveSetItem (f : ItemFields) (s : State) : State × Answer :=
  match slotOf f.slot, basisOf f.basis with
  | some slot, some .none => (s.setItem slot Item.unused, .ok Item.unused.fields)
  | some slot, some b =>
    match itemSourceOf b f.source with
    | some src =>
      if itemFieldsInRange f then
        let t := s.recompute slot ((s.msc.get slot).rewritten f b src s.clk.farm)
        (t, .ok (t.msc.get slot).fields)
      else (s, .bare .badValue)
    | none => (s, .bare .badValue)
  | _, _ => (s, .bare .badValue)

/-! ### SERVICE_DONE (R140) and READ_ITEMS (R142) -/

/-- The item after an accepted service (R140, steps 2 to 5). -/
def Item.serviced (it : Item) (farm : Option Nat) : Item :=
  { it with
    accrued := 0
    calendarStart := if it.basis = .calendar then farm else it.calendarStart
    state := .running
    doneCount := satAdd max16 it.doneCount 1
    lastDone := farm }

/-- The SERVICE_RECORDED alert of an item as it was before the service (R140). -/
def Item.serviceAlert (slot : Fin 16) (it : Item) : Alert where
  kind := .serviceRecorded
  severity := .note
  source := .slot slot
  sub := none
  detail := some it.displayed
  threshold := some it.interval
  snapshot := .absent

/-- SERVICE_DONE (R140). -/
def serveServiceDone (raw : Nat) (s : State) : State × Answer :=
  match slotOf raw with
  | none => (s, .bare .badValue)
  | some slot =>
    let it := s.msc.get slot
    if ¬ s.serviceHold then (s, .bare .notInService)
    else if it.basis = .none then (s, .bare .badValue)
    else if it.basis = .calendar ∧ s.clk.farm = none then (s, .bare .timeUnset)
    else
      ((s.setItem slot (it.serviced s.clk.farm)).raise (it.serviceAlert slot), .ok (it.serviced s.clk.farm).fields)

/-- READ_ITEMS (R142). -/
def serveReadItems (first count : Nat) (s : State) : State × Answer :=
  if first > 15 ∨ count = 0 ∨ count > 8 ∨ first + count > 16 then (s, .bare .badValue)
  else
    (s, .ok ([u1 s.skd.mode.code] ++ optionalNat 2 (s.skd.hold.map fun e => secondsLeft e s.now)
      ++ [u1 (s.skd.train.getD 0), u1 s.skd.lastTrain, mark s.clk.farm.isSome]
      ++ ((s.msc.list.drop first).take count).flatMap Item.fields))

/-! ### The store's part (R143) -/

/-- What a store write copies of an item (R143). -/
def Item.stored (it : Item) : StoredItem where
  tag := it.tag
  basis := it.basis
  source := it.source
  interval := it.interval
  lead := it.lead
  accrued := it.accrued
  calendarStart := it.calendarStart
  lastDone := it.lastDone
  doneCount := it.doneCount

/-- An item as start-up loads it, its state recomputed without an alert (R143). -/
def StoredItem.loaded (st : StoredItem) : Item :=
  let it : Item :=
    { tag := st.tag, basis := st.basis, source := st.source, interval := st.interval, lead := st.lead, accrued := st.accrued,
      state := .unused, calendarStart := st.calendarStart, lastDone := st.lastDone, doneCount := st.doneCount }
  { it with state := it.computedState }

end Sys2Proof.Machine
end

