-- ==== Sys2Proof/Machine/Store.lean ====
section
/-! DEFINITION. Settings Store (chapter 11): the copy a write takes and the requests for a write (R177, R178). -/

namespace Sys2Proof.Machine

/-- The icing state as it is written (R129). -/
def IcingState.stored : IcingState → StoredIcing
  | .clear | .watch | .suspect => .clear
  | .iced => .iced
  | .thaw => .thaw

/-- The contents of R177 as they stand. -/
def State.contents (s : State) : Image where
  track := s.trk.map Track.settings
  scan := s.acq.table
  inputs := s.sav.map Sav.settings
  grid := s.gra.settings
  regime := s.rgc.settings
  ice := s.icm.settings
  curve := s.icm.curve
  items := s.msc.map Item.stored
  baseline := s.icm.baseline
  learnedCount := s.icm.learnedCount
  icing := s.icm.state.stored

/-- A request for a write: it starts one, or creates or joins the pending one (R178). -/
def Sst.requested (t : Sst) (copy : Image) (now : Tick) : Sst :=
  match t.inFlight with
  | none => { t with inFlight := some ⟨copy, now⟩ }
  | some _ => { t with pendingWrite := true }

/-- Request a store write (R178). -/
def State.requestWrite (s : State) : State :=
  { s with sst := s.sst.requested s.contents s.now }

/-- The STORE_FAULT alert (R178). -/
def storeFaultAlert : Alert where
  kind := .storeFault
  severity := .alarm
  source := .none
  sub := none
  detail := none
  threshold := none
  snapshot := .absent

/-- The store at the completion of the write in flight: the image is replaced on success, and a pending write starts with a
copy of its own (R177, R178). -/
def Sst.completed (t : Sst) (w : StoreWrite) (success : Bool) (copy : Image) (now : Tick) : Sst :=
  { t with
    image := if success then .valid w.copy else t.image
    lastFailed := !success
    inFlight := if t.pendingWrite then some ⟨copy, now⟩ else none
    pendingWrite := false }

/-- Advances of device seconds between autosaves (R178). -/
def autosavePeriod : Nat := 3600

/-- The autosave count at an advance of device seconds; every 3,600th requests a write (R178). -/
def State.countAutosave (s : State) : State :=
  if s.sst.autosave + 1 < autosavePeriod then { s with sst := { s.sst with autosave := s.sst.autosave + 1 } }
  else ({ s with sst := { s.sst with autosave := 0 } }).requestWrite

end Sys2Proof.Machine
end

