-- ==== Sys2Proof/Machine/Icing.lean ====
section
/-! DEFINITION. Icing Monitor (chapter 7, R108 to R131). -/

namespace Sys2Proof.Machine

/-! ### Evidence -/

/-- The temperature of a fresh record (R108). -/
def Icm.knownTemperature (m : Icm) : Option Int :=
  match m.ambient with
  | some a => if a.fresh then some a.temperature else none
  | none => none

/-- The COLD criterion (R117). -/
def Icm.cold (m : Icm) : Option Bool :=
  match m.ambient with
  | some a =>
    if a.fresh then some (decide (a.temperature ≤ m.settings.tice) && decide (a.humidity ≥ m.settings.hice)) else none
  | none => none

/-- The expected power from a point on, for a wind at or above that point's (R113). -/
def expectedFrom (w : Int) : List CurvePoint → Int
  | [] => 0
  | [a] => a.power
  | a :: b :: rest =>
    if w < b.wind then a.power + ((b.power : Int) - a.power) * (w - a.wind) / ((b.wind : Int) - a.wind)
    else expectedFrom w (b :: rest)

/-- The expected power E at a wind speed (R113). -/
def expectedPower (curve : List CurvePoint) (w : Int) : Int :=
  match curve with
  | [] => 0
  | a :: rest => if w < a.wind then 0 else expectedFrom w (a :: rest)

/-- The curve is valid: it holds at least 2 points (R112). -/
def curveValid (curve : List CurvePoint) : Bool := curve.length ≥ 2

/-- The wind lies inside the curve's range, both ends included (R112). -/
def inCurveRange (curve : List CurvePoint) (w : Int) : Bool :=
  match curve.head?, curve.getLast? with
  | some a, some z => decide ((a.wind : Int) ≤ w) && decide (w ≤ z.wind)
  | _, _ => false

/-- P_mean of the gathered power (R115). -/
def Icm.meanPower (m : Icm) : Option MeanPower :=
  if m.powerCount = 0 then none else some ⟨m.powerSum / m.powerCount, m.powerCount⟩

/-- O_1 of an evaluation (R116). -/
def Icm.evaluatedO1 (m : Icm) (mode : ServiceMode) : Option Nat :=
  match m.gathered with
  | some g => if g.owner = some .tl ∧ mode ≠ .test then some g.value else none
  | none => none

/-- E for the DEFICIT criterion: present when none of its causes of being unknown holds (R117). -/
def State.deficitExpected (s : State) : Option Int :=
  match s.icm.ambient with
  | some a =>
    if s.rgc.regime.val ≥ 2 ∧ s.gra.power.isSome ∧ s.icm.powerCount ≠ 0 ∧ curveValid s.icm.curve ∧ a.fresh
        ∧ inCurveRange s.icm.curve a.wind then
      some (expectedPower s.icm.curve a.wind)
    else none
  | none => none

/-- The DEFICIT criterion (R117). -/
def State.deficit (s : State) : Option Bool :=
  match s.deficitExpected, s.icm.meanPower with
  | some e, some p => some (decide (p.pmean * 1000 < e * (1000 - (s.icm.settings.powerMargin : Int))))
  | _, _ => none

/-- The baseline is valid (R123). -/
def Icm.baselineValid (m : Icm) : Bool := m.learnedCount ≥ 16

/-- The IMBALANCE criterion (R117). -/
def Icm.imbalance (m : Icm) (o1 : Option Nat) : Option Bool :=
  match o1 with
  | some v => if m.baselineValid then some (decide (v * 1000 > m.baseline * (1000 + m.settings.imbalanceMargin))) else none
  | none => none

/-! ### Gathering (R115, R116) -/

/-- A block close with power (R115). -/
def State.gatherPower (s : State) (pkw : Int) : State :=
  { s with icm := { s.icm with powerSum := s.icm.powerSum + pkw, powerCount := s.icm.powerCount + 1 } }

/-- A hand-off of the order-1 amplitude: gathered from ICE_INPUT, dropped in TEST (R116). -/
def State.gatherO1 (s : State) (va : Fin 6) (value : Nat) (owner : Option Channel) : State :=
  { s with
    icm := if va = s.icm.settings.iceInput ∧ s.skd.mode ≠ .test then { s.icm with gathered := some ⟨value, owner⟩ } else s.icm }

/-! ### Changes of state -/

/-- The icing state changes: the counts return to 0 and ICESTOP follows (R118, R126). -/
def Icm.entering (m : Icm) (st : IcingState) : Icm :=
  { m with state := st, icestop := st.stops, e1 := 0, e2 := 0, runKind := none }

/-- CLEAR or WATCH is entered: no timer runs (R118). -/
def State.enterUntimed (s : State) (st : IcingState) : State :=
  { s with icm := { s.icm.entering st with tConfirm := none, tThaw := .stopped } }

/-- Entry to SUSPECT starts T_confirm (R119). -/
def State.enterSuspect (s : State) : State :=
  { s with icm := { s.icm.entering .suspect with tConfirm := some (s.now + s.icm.settings.tConfirm * ticksPerSecond) } }

/-- Entry to THAW starts T_thaw (R122). -/
def State.enterThaw (s : State) : State :=
  { s with icm := { s.icm.entering .thaw with tThaw := .running (s.now + s.icm.settings.tThaw * ticksPerSecond) } }

/-- An ICE_STATE alert (R128). -/
def iceStateAlert (v : Severity) (detail threshold : Option Int) (snap : SnapField) : Alert where
  kind := .iceState
  severity := v
  source := .none
  sub := none
  detail := detail
  threshold := threshold
  snapshot := snap

/-- The TSA snapshot of an input's record as it stands (R124). -/
def State.recordSnapshot (s : State) (va : Fin 6) : SnapBody :=
  let v := s.sav.get va
  .tsa va v.averages v.n v.samples (s.ownerSpeed v.owner) s.rgc.regime

/-- A new icing event: ICED is entered from SUSPECT (R124). That the alert comes before the ICE items accrue, and the copy of the
store write after, is the model's choice (assumption 11). -/
def State.enterIcedEvent (s : State) : State :=
  let s := s.enterUntimed .iced
  let va := s.icm.settings.iceInput
  let wanted := (s.sav.get va).n > 0
  let snap := if wanted then s.sns.offer else .absent
  let s := if wanted then s.takeSnapshot (s.recordSnapshot va) else s
  ((s.raise (iceStateAlert .alarm s.icm.knownTemperature (some s.icm.settings.tice) snap)).accrue (onBasis .ice) 1).requestWrite

/-- ICED is entered again from THAW (R122, R124). -/
def State.reenterIced (s : State) : State :=
  let s := s.enterUntimed .iced
  (s.raise (iceStateAlert .warn s.icm.knownTemperature (some s.icm.settings.tice) .absent)).requestWrite

/-- THAW ends in CLEAR (R125). -/
def State.thawed (s : State) : State :=
  let s := s.enterUntimed .clear
  (s.raise (iceStateAlert .note s.icm.knownTemperature (some s.icm.settings.tice) .absent)).requestWrite

/-- ICED or THAW is released to CLEAR (R127). -/
def State.released (s : State) : State :=
  ((s.enterUntimed .clear).raise (iceStateAlert .note none none .absent)).requestWrite

/-! ### The evaluation (R114) -/

/-- An evaluation in WATCH (R119). -/
def State.evaluateWatch (s : State) (cold deficit imbalance : Option Bool) : State :=
  match cold with
  | some false => s.enterUntimed .clear
  | some true =>
    if deficit = some true ∨ imbalance = some true then
      if s.icm.e1 + 1 ≥ 3 then s.enterSuspect else { s with icm := { s.icm with e1 := s.icm.e1 + 1 } }
    else { s with icm := { s.icm with e1 := 0 } }
  | none => s

/-- The SUSPECT run count after one more evaluation of a kind (R120). -/
def Icm.runAfter (m : Icm) (kind : RunKind) : Nat := if m.runKind = some kind then m.e2 + 1 else 1

/-- An evaluation in SUSPECT (R120). -/
def State.evaluateSuspect (s : State) (deficit imbalance : Option Bool) : State :=
  match deficit, imbalance with
  | some true, some true =>
    if s.icm.runAfter .confirm ≥ 3 then s.enterIcedEvent
    else { s with icm := { s.icm with e2 := s.icm.runAfter .confirm, runKind := some .confirm } }
  | some false, some false =>
    if s.icm.runAfter .clear ≥ 3 then s.enterUntimed .watch
    else { s with icm := { s.icm with e2 := s.icm.runAfter .clear, runKind := some .clear } }
  | _, _ => { s with icm := { s.icm with e2 := 0, runKind := none } }

/-- An evaluation in ICED (R122). -/
def State.evaluateIced (s : State) : State :=
  match s.icm.knownTemperature with
  | some t => if t ≥ s.icm.settings.tice + 20 then s.enterThaw else s
  | none => s

/-- An evaluation in THAW (R122, R125). -/
def State.evaluateThaw (s : State) : State :=
  match s.icm.knownTemperature with
  | some t => if t ≤ s.icm.settings.tice then s.reenterIced else if s.icm.tThaw = .elapsed then s.thawed else s
  | none => s

/-- Step 4: the icing state moves (R119 to R122). -/
def State.moveIcing (s : State) (cold deficit imbalance : Option Bool) : State :=
  match s.icm.state with
  | .clear => if cold = some true then s.enterUntimed .watch else s
  | .watch => s.evaluateWatch cold deficit imbalance
  | .suspect => s.evaluateSuspect deficit imbalance
  | .iced => s.evaluateIced
  | .thaw => s.evaluateThaw

/-- The baseline after it learns from an O_1 (R123). -/
def Icm.learnedFrom (m : Icm) (o1 : Nat) : Icm :=
  { m with
    baseline := if m.learnedCount = 0 then o1 else ((m.baseline : Int) + sar ((o1 : Int) - m.baseline) 4).toNat
    learnedCount := satAdd max16 m.learnedCount 1 }

/-- The baseline may be learned: CLEAR, COLD false, regime 2 or above; from a known O_1 (R123). -/
def State.mayLearn (s : State) : Bool :=
  s.icm.state = .clear ∧ s.icm.cold = some false ∧ s.rgc.regime.val ≥ 2

/-- Step 5: the baseline learns (R123). -/
def State.learnBaseline (s : State) (may : Bool) (o1 : Option Nat) : State :=
  match may, o1 with
  | true, some v => { s with icm := s.icm.learnedFrom v }
  | _, _ => s

/-- Steps 1 and the clock: both gatherings start again empty, and the next evaluation falls one period after this one (R114). -/
def State.emptyGatherings (s : State) (due : Tick) : State :=
  { s with
    icm :=
      { s.icm with
        powerSum := 0, powerCount := 0, gathered := none
        nextEval := some (due + s.icm.settings.period * ticksPerSecond) } }

/-- The record of an evaluation, judged on the state at its start (R114). -/
def State.evalRecord (s : State) : EvalRecord where
  deviceSeconds := s.clk.deviceSeconds
  cold := s.icm.cold
  deficit := s.deficit
  imbalance := s.icm.imbalance (s.icm.evaluatedO1 s.skd.mode)
  power := s.icm.meanPower
  o1 := s.icm.evaluatedO1 s.skd.mode
  expected := s.deficitExpected
  regime := s.rgc.regime
  learned := s.mayLearn ∧ (s.icm.evaluatedO1 s.skd.mode).isSome

/-- Step 6: the record of this evaluation replaces the last one. -/
def State.recordEvaluation (s : State) (r : EvalRecord) : State := { s with icm := { s.icm with lastEval := some r } }

/-- An evaluation due at `due`, taken whole (R114). -/
def State.evaluateIcing (s : State) (due : Tick) : State :=
  let r := s.evalRecord
  (((s.emptyGatherings due).moveIcing r.cold r.deficit r.imbalance).learnBaseline s.mayLearn r.o1).recordEvaluation r

/-! ### Timers -/

/-- T_confirm expires in SUSPECT (R121). -/
def State.confirmExpired (s : State) : State :=
  if s.icm.cold = some false then s.enterUntimed .watch else s.enterIcedEvent

/-- T_thaw expires in THAW (R125). -/
def State.thawExpired (s : State) : State :=
  match s.icm.knownTemperature with
  | some t =>
    if t > s.icm.settings.tice then s.thawed else { s with icm := { s.icm with tThaw := .elapsed } }
  | none => { s with icm := { s.icm with tThaw := .elapsed } }

/-- The record becomes stale, with its alert (R110). -/
def State.ambientExpired (s : State) (a : Ambient) : State :=
  ({ s with icm := { s.icm with ambient := some { a with fresh := false } } }).raise
    { kind := .ambientStale, severity := .note, source := .none, sub := none, detail := none, threshold := some 600,
      snapshot := .absent }

/-- Seconds for which an ambient record is fresh (R108). -/
def ambientFreshSeconds : Nat := 600

/-! ### Requests -/

/-- AMBIENT (R109). -/
def serveAmbient (f : AmbientFields) (s : State) : State × Answer :=
  let t := clampInt (-500) 500 f.temperature
  let h := clampInt 0 100 f.humidity
  let w := clampInt 0 600 f.wind
  ({ s with icm := { s.icm with ambient := some ⟨t, h, w, s.now, true⟩ } },
    .ok [mark (t ≠ f.temperature), mark (h ≠ f.humidity), mark (w ≠ f.wind)])

/-- Every setting lies in its range (R111). -/
def iceFieldsValid (f : IceFields) : Bool :=
  (decide (-500 ≤ f.tice) && decide (f.tice ≤ 480)) && f.hice ≤ 100 && f.powerMargin ≤ 999 && f.imbalanceMargin ≤ 9999
    && (10 ≤ f.period && f.period ≤ 300) && (1 ≤ f.tConfirm && f.tConfirm ≤ max16) && (1 ≤ f.tThaw && f.tThaw ≤ max16)

/-- The Icing Monitor after an accepted SET_ICE at `now` (R111). That an emptied baseline holds 0 is the model's choice
(assumption 24). -/
def Icm.configured (m : Icm) (f : IceFields) (va : Fin 6) (now : Tick) : Icm :=
  { m with
    settings := ⟨f.tice, f.hice, f.powerMargin, f.imbalanceMargin, f.period, f.tConfirm, f.tThaw, va⟩
    baseline := if va ≠ m.settings.iceInput ∨ f.zeroBaseline then 0 else m.baseline
    learnedCount := if va ≠ m.settings.iceInput ∨ f.zeroBaseline then 0 else m.learnedCount
    gathered := if va ≠ m.settings.iceInput then none else m.gathered
    nextEval := if f.period ≠ m.settings.period then some (now + f.period * ticksPerSecond) else m.nextEval }

/-- SET_ICE (R111). -/
def serveSetIce (f : IceFields) (s : State) : State × Answer :=
  match vaOf f.iceInput with
  | some va =>
    if iceFieldsValid f then ({ s with icm := s.icm.configured f va s.now }, .bare .ok) else (s, .bare .badValue)
  | none => (s, .bare .badValue)

/-- The point count is not 1 and at most 16, the points are in range, and the wind speeds ascend strictly (R112). -/
def curveFieldsValid (points : List CurvePoint) : Bool :=
  points.length ≠ 1 && points.length ≤ 16 && points.all (fun p => p.wind ≤ 600 && p.power ≤ 32767)
    && ascending (points.map CurvePoint.wind)

/-- SET_CURVE (R112). -/
def serveSetCurve (points : List CurvePoint) (s : State) : State × Answer :=
  if curveFieldsValid points then ({ s with icm := { s.icm with curve := points } }, .bare .ok) else (s, .bare .badValue)

/-- ICE_RELEASE (R127). -/
def serveIceRelease (s : State) : State × Answer :=
  if s.icm.state.stops then
    if s.serviceHold then (s.released, .bare .ok) else (s, .bare .notInService)
  else (s, .bare .badState)

/-- The age of a record at `now`: whole seconds since its receipt, saturating (R108). -/
def Ambient.age (a : Ambient) (now : Tick) : Nat := min max16 ((now - a.receivedAt) / ticksPerSecond)

/-- The ambient record's fields with its age and whether it is fresh (R131). -/
def Ambient.fields (a : Ambient) (now : Tick) : List Field :=
  [i2 a.temperature, ⟨1, a.humidity⟩, ⟨2, a.wind⟩, u2 (a.age now), mark a.fresh]

/-- The last evaluation record's fields (R114). The spec leaves open how an unknown O_1, or an unknown mean power with its block
count, stands on the line: that each is carried as absent, a presence mark 0 and zeros, is the model's choice, and so are the 4
bytes of the block count, for which no range is stated (assumption 12). -/
def EvalRecord.fields (r : EvalRecord) : List Field :=
  [u4 r.deviceSeconds, u1 (criterionCode r.cold), u1 (criterionCode r.deficit), u1 (criterionCode r.imbalance)]
    ++ optionalGroup r.power.isSome [i2 ((r.power.map MeanPower.pmean).getD 0), u4 ((r.power.map MeanPower.blocks).getD 0)]
    ++ optionalNat 2 r.o1 ++ optional 2 r.expected ++ [u1 r.regime.val, mark r.learned]

/-- T_thaw's state, in the order R118 lists it. -/
def ThawTimer.code : ThawTimer → Nat
  | .stopped => 0
  | .running _ => 1
  | .elapsed => 2

/-- T_thaw's expiry while it runs. -/
def ThawTimer.expiry : ThawTimer → Option Tick
  | .running e => some e
  | .stopped | .elapsed => none

/-- An ambient record whose fields are carried when none is held. -/
def Ambient.none : Ambient := ⟨0, 0, 0, 0, false⟩

/-- An evaluation record whose fields are carried when none is held. -/
def EvalRecord.none : EvalRecord := ⟨0, Option.none, Option.none, Option.none, Option.none, Option.none, Option.none, 0, false⟩

/-- The icing settings' fields (R111). -/
def IceSettings.fields (t : IceSettings) : List Field :=
  [i2 t.tice, u1 t.hice, u2 t.powerMargin, u2 t.imbalanceMargin, u2 t.period, u2 t.tConfirm, u2 t.tThaw, u1 t.iceInput.val]

/-- READ_ICE (R131). The curve is carried as a count of points and the points, and a timer's seconds as an optional field after its
state (assumption 12); an empty baseline is carried as the 0 it holds (assumption 24). -/
def serveReadIce (s : State) : State × Answer :=
  let m := s.icm
  (s, .ok ([u1 m.state.code, mark m.icestop, u1 m.e1, u1 m.e2] ++ optionalNat 1 (m.runKind.map RunKind.code)
    ++ [u1 (bit m.tConfirm.isSome)] ++ optionalNat 2 (m.tConfirm.map fun e => secondsLeft e s.now)
    ++ [u1 m.tThaw.code] ++ optionalNat 2 (m.tThaw.expiry.map fun e => secondsLeft e s.now)
    ++ optionalGroup m.ambient.isSome ((m.ambient.getD Ambient.none).fields s.now)
    ++ optional 2 (if curveValid m.curve then m.ambient.map fun a => expectedPower m.curve a.wind else none)
    ++ [u2 m.baseline, u2 m.learnedCount, mark m.baselineValid]
    ++ optionalGroup m.lastEval.isSome (m.lastEval.getD EvalRecord.none).fields
    ++ [u2 ((m.nextEval.map fun e => secondsLeft e s.now).getD 0)]
    ++ m.settings.fields
    ++ u1 m.curve.length :: m.curve.flatMap fun p => [u2 p.wind, u2 p.power]))

end Sys2Proof.Machine
end

