-- ==== Sys2Proof/Machine/Indicators.lean ====
section
/-! DEFINITION. Indicator Evaluator (chapter 6, R89 to R106). -/

namespace Sys2Proof.Machine

/-! ### The eight indicators (R89 to R91) -/

/-- isqrt(floor(Σ v² / N)) (R89, R90). -/
def rootMeanSquare (samples : Nat) (values : List Int) : Nat :=
  isqrt ((values.map fun v => v.natAbs * v.natAbs).sum / samples)

/-- The largest magnitude (R89). -/
def peak (values : List Int) : Nat := values.foldl (fun m v => max m v.natAbs) 0

/-- CREST in sixteenths (R89). -/
def crest (pk rms : Nat) : Nat := if rms = 0 then 0 else min 255 (16 * pk / rms)

/-- The indicator of a watched order (R91). -/
def orderIndicator (samples : Nat) (avg : List Int) (m : Nat) : IndValue :=
  if m = 0 then .unused
  else if m ≥ samples / 2 then .absent
  else .value (min 32768 (orderAmplitude m samples avg))

/-- The eight values of a computation, in index order. -/
def indicatorValues (c : Copies) (orders : Tab 4 Nat) : Tab 8 IndValue :=
  let rms := rootMeanSquare c.samples c.avg
  let pk := peak c.avg
  ⟨[.value rms, .value pk, .value (crest pk rms), .value (rootMeanSquare c.samples c.raw)]
      ++ orders.list.map (orderIndicator c.samples c.avg), by simp [orders.len]⟩

/-- The indicator set a computation produces (R92). -/
def Computation.result (c : Computation) : IndicatorSet where
  revNumber := c.copies.revNumber
  samples := c.copies.samples
  n := c.copies.n
  warm := c.copies.warm
  orders := c.orders
  values := indicatorValues c.copies c.orders

/-! ### Starting a computation (R92, R93) -/

/-- An update starts a computation, makes it wait, or puts it in the place of the waiting one (R93). -/
def Ind.started (v : Ind) (c : Copies) (orders : Tab 4 Nat) (now : Tick) : Ind :=
  match v.computing, v.waiting with
  | none, _ => { v with computing := some ⟨c, orders, now⟩ }
  | some _, none => { v with waiting := some c }
  | some _, some _ => { v with waiting := some c, dropped := satAdd max16 v.dropped 1 }

/-- Start the evaluator for an input with the copies of its update (R49). -/
def State.startComputation (s : State) (va : Fin 6) (c : Copies) : State :=
  s.setInd va ((s.ind.get va).started c (s.sav.get va).settings.orders s.now)

/-! ### The level state machine (R94 to R98) -/

/-- The indices 0 to 7, in order. -/
def allIndices : List (Fin 8) := [0, 1, 2, 3, 4, 5, 6, 7]

/-- The watched order of an index, for indices 4 to 7. -/
def orderAt (orders : Tab 4 Nat) (i : Fin 8) : Option Nat :=
  if h : 4 ≤ i.val then some (orders.get ⟨i.val - 4, Nat.sub_lt_left_of_lt_add h i.isLt⟩) else none

/-- The target of a value (R95). -/
def targetLevel (pair : LevelPair) (v : Nat) : Level :=
  if pair.alarm ≠ 0 ∧ v ≥ pair.alarm then .alarm else if pair.warn ≠ 0 ∧ v ≥ pair.warn then .warn else .normal

/-- A level's own threshold (R96). -/
def levelThreshold (pair : LevelPair) : Level → Nat
  | .normal => 0
  | .warn => pair.warn
  | .alarm => pair.alarm

/-- A level state after an evaluation that takes its indicator part (R95, R96). -/
def LevelState.evaluated (l : LevelState) (pair : LevelPair) (persistence v : Nat) : LevelState :=
  let target := targetLevel pair v
  if l.level.rank < target.rank then
    if l.rise + 1 = persistence then ⟨target, 0, 0⟩ else ⟨l.level, l.rise + 1, 0⟩
  else if l.level = .normal then ⟨l.level, 0, 0⟩
  else if levelThreshold pair l.level = 0 then ⟨l.level.down, 0, 0⟩
  else if v < 7 * levelThreshold pair l.level / 8 then
    if l.fall + 1 = persistence then ⟨l.level.down, 0, 0⟩ else ⟨l.level, 0, l.fall + 1⟩
  else ⟨l.level, 0, 0⟩

/-- The value with which an index takes part in an evaluation (R94). -/
def IndicatorSet.partOf (t : IndicatorSet) (ordersNow : Tab 4 Nat) (i : Fin 8) : Option Nat :=
  match t.values.get i with
  | .value v => if t.warm ∧ orderAt t.orders i = orderAt ordersNow i then some v else none
  | .unused | .absent => none

/-- The level states after an evaluation (R94). -/
def evaluatedLevels (t : IndicatorSet) (ordersNow : Tab 4 Nat) (row : Row) (levels : Tab 8 LevelState) : Tab 8 LevelState :=
  Tab.ofFn fun i =>
    match t.partOf ordersNow i with
    | some v => (levels.get i).evaluated (row.levels.get i) row.persistence v
    | none => levels.get i

/-- A change of level made by an evaluation (R99). -/
structure LevelChange where
  index : Fin 8
  level : Level
  rise : Bool
  value : Nat
  threshold : Nat
deriving DecidableEq, Repr

/-- The change of one index, when its level changed. -/
def levelChange (t : IndicatorSet) (ordersNow : Tab 4 Nat) (row : Row) (before after : Tab 8 LevelState) (i : Fin 8) :
    Option LevelChange :=
  let b := (before.get i).level
  let a := (after.get i).level
  match t.partOf ordersNow i with
  | some v =>
    if b = a then none
    else if b.rank < a.rank then some ⟨i, a, true, v, levelThreshold (row.levels.get i) a⟩
    else some ⟨i, a, false, v, levelThreshold (row.levels.get i) b⟩
  | none => none

/-- The changes of an evaluation, in index order (R101). -/
def levelChanges (t : IndicatorSet) (ordersNow : Tab 4 Nat) (row : Row) (before : Tab 8 LevelState) : List LevelChange :=
  allIndices.filterMap (levelChange t ordersNow row before (evaluatedLevels t ordersNow row before))

/-! ### Icing and the service mode (R102, R103) -/

/-- SUSPECT, ICED or THAW (R103). -/
def IcingState.reclassifies : IcingState → Bool
  | .clear | .watch => false
  | .suspect | .iced | .thaw => true

/-- The indicator of an input that R103 reclassifies now. -/
def State.reclassified (s : State) (va : Fin 6) (i : Fin 8) : Bool :=
  s.icm.state.reclassifies ∧ s.icm.settings.iceInput = va ∧ orderAt (s.sav.get va).settings.orders i = some 1

/-- A change asks for a snapshot: a rise to ALARM in NORMAL mode that is not reclassified (R100, R102, R103). -/
def State.wantsSnapshot (s : State) (va : Fin 6) (c : LevelChange) : Bool :=
  s.skd.mode = .normal ∧ c.rise ∧ c.level = .alarm ∧ ¬ s.reclassified va c.index

/-- The alert of a change, given what the evaluation's snapshot request handed back (R99, R102, R103). `s` is the state at the
start of the work. -/
def State.changeAlert (s : State) (va : Fin 6) (snap : SnapField) (c : LevelChange) : Alert :=
  let r := s.reclassified va c.index
  { kind := if r then .iceImbalance else .vibLevel
    severity := if r ∨ s.skd.mode ≠ .normal then .note else c.level.severity
    source := .input (.va va)
    sub := some c.index.val
    detail := some c.value
    threshold := some c.threshold
    snapshot := if s.wantsSnapshot va c then snap else .absent }

/-! ### Damage and the order-1 hand-off (R104, R105) -/

/-- The highest level of an input's indicators, those that are left out not counted (R104). -/
def highestLevel (leftOut : Fin 8 → Bool) (levels : Tab 8 LevelState) : Level :=
  allIndices.foldl (fun m i => if leftOut i then m else m.max (levels.get i).level) .normal

/-- The damage weight of an evaluation; none is handed from a cold set or in a service mode (R104). -/
def State.damageWeight (s : State) (va : Fin 6) (t : IndicatorSet) (levels : Tab 8 LevelState) : Nat :=
  if t.warm ∧ s.skd.mode = .normal then (highestLevel (s.reclassified va) levels).weight else 0

/-- The value of order 1 in a set, when it watched that order (R105). -/
def IndicatorSet.order1 (t : IndicatorSet) : Option Nat :=
  allIndices.findSome? fun i =>
    match orderAt t.orders i, t.values.get i with
    | some 1, .value v => some v
    | _, _ => none

/-- The order-1 hand-off of a set (R105). -/
def State.handOrder1 (s : State) (va : Fin 6) (t : IndicatorSet) : State :=
  match t.order1 with
  | some v => if t.warm ∧ va = s.icm.settings.iceInput then s.gatherO1 va v (s.sav.get va).owner else s
  | none => s

/-! ### The end of a computation (R101) -/

/-- The evaluator of an input after a computation has ended: its set and levels, and the waiting computation started. -/
def Ind.finished (v : Ind) (t : IndicatorSet) (levels : Tab 8 LevelState) (ordersNow : Tab 4 Nat) (now : Tick) : Ind :=
  { v with
    set := some t
    levels := levels
    computing := v.waiting.map fun c => ⟨c, ordersNow, now⟩
    waiting := none }

/-- The TSA snapshot of a computation: the copies it worked from (R100). -/
def State.copiesSnapshot (s : State) (va : Fin 6) (c : Copies) : SnapBody :=
  .tsa va c.avg c.n c.samples (s.ownerSpeed (s.sav.get va).owner) s.rgc.regime

/-- The profile row an input is judged against (R83). -/
def State.activeRow (s : State) (va : Fin 6) : Row := s.row s.rgc.active va

/-- The work at the end of a computation, in the order of R101. -/
def State.endComputation (s : State) (va : Fin 6) (comp : Computation) : State :=
  let t := comp.result
  let ordersNow := (s.sav.get va).settings.orders
  let before := (s.ind.get va).levels
  let after := evaluatedLevels t ordersNow (s.activeRow va) before
  let changes := levelChanges t ordersNow (s.activeRow va) before
  let wanted := changes.any (s.wantsSnapshot va)
  let s1 := s.setInd va ((s.ind.get va).finished t after ordersNow s.now)
  let s2 := if wanted then s1.takeSnapshot (s.copiesSnapshot va comp.copies) else s1
  let s3 := s2.raiseAll (changes.map (s.changeAlert va s.sns.offer))
  let s4 := s3.accrue (onInput va) (s.damageWeight va t after)
  s4.handOrder1 va t

/-! ### What other requests do to the levels (R97, R98) -/

/-- A level state at rest. -/
def LevelState.normal : LevelState := ⟨.normal, 0, 0⟩

/-- Every level NORMAL and every counter 0 (R55). -/
def Ind.relaxed (v : Ind) : Ind := { v with levels := Tab.replicate 8 LevelState.normal }

/-- The indices whose watched order changes return to NORMAL (R98). -/
def Ind.reordered (v : Ind) (old new : Tab 4 Nat) : Ind :=
  { v with levels := Tab.ofFn fun i => if orderAt old i = orderAt new i then v.levels.get i else LevelState.normal }

/-- The request's k and orders are in range, and no two orders from 1 up are the same (R54). -/
def inputFieldsValid (f : InputFields) : Bool :=
  f.k ≤ 8 && f.orders.list.all (· ≤ 127) && decide (f.orders.list.filter (· ≠ 0)).Nodup

/-- SET_INPUT (R54, R98). -/
def serveSetInput (f : InputFields) (s : State) : State × Answer :=
  match vaOf f.input with
  | some va =>
    if inputFieldsValid f then
      ((s.setSav va { s.sav.get va with settings := ⟨f.k, f.orders⟩ }).setInd va
          ((s.ind.get va).reordered (s.sav.get va).settings.orders f.orders),
        .bare .ok)
    else (s, .bare .badValue)
  | none => (s, .bare .badValue)

/-! ### READ_INDICATORS (R106) -/

def LevelState.fields (l : LevelState) : List Field := [u1 l.level.rank, u1 l.rise, u1 l.fall]

/-- An indicator's value on the line; indices 4 to 7 carry a mark before it: 0 a value, 1 UNUSED, 2 ABSENT (assumption 12). -/
def IndValue.fields (i : Nat) : IndValue → List Field
  | .value v => (if i < 4 then [] else [u1 0]) ++ [if i = 2 then u1 v else u2 v]
  | .unused => [u1 1, u2 0]
  | .absent => [u1 2, u2 0]

/-- The fields of an indicator set (R92). -/
def IndicatorSet.fields (t : IndicatorSet) : List Field :=
  [u4 t.revNumber, u2 t.samples, u2 t.n, mark t.warm] ++ t.orders.list.map u1
    ++ allIndices.flatMap fun i => (t.values.get i).fields i.val

/-- READ_INDICATORS (R106). -/
def serveReadIndicators (raw : Nat) (s : State) : State × Answer :=
  match vaOf raw with
  | none => (s, .bare .badValue)
  | some va =>
    let v := s.ind.get va
    let standing := v.levels.list.flatMap LevelState.fields ++ [u2 v.dropped, u1 s.rgc.active.val]
    match v.set with
    | none => (s, ⟨.empty, standing⟩)
    | some t => (s, .ok (standing ++ t.fields ++ (s.activeRow va).fields))

end Sys2Proof.Machine
end

