-- ==== Sys2Proof/Machine/Averaging.lean ====
section
/-! DEFINITION. Synchronous Averager (chapter 3, R39 to R56). -/

namespace Sys2Proof.Machine

/-! ### Buffers (R39 to R42), shared with the Grid Analyzer's cycle buffers (R58, R59) -/

/-- A sample as the sequencer delivers it (R34). -/
structure Sample where
  rev : RevId
  input : Input
  slot : Nat
  value : Int
  held : Bool
  clipped : Bool
deriving DecidableEq, Repr

/-- An empty buffer for a revolution. -/
def RevBuffer.empty (rev : RevId) : RevBuffer := ⟨rev, [], 0⟩

/-- The slots with one more filled, in rising order. Samples arrive in rising order (R34), so it joins at the end. -/
def fillSlot (x : SlotSample) : List SlotSample → List SlotSample
  | [] => [x]
  | y :: rest => if x.slot < y.slot then x :: y :: rest else if x.slot = y.slot then x :: rest else y :: fillSlot x rest

/-- A sample that names the buffer's revolution fills its slot; any other is dropped (R40, R58). -/
def RevBuffer.filled (b : RevBuffer) (x : Sample) : RevBuffer :=
  if x.rev = b.rev then
    ⟨b.rev, fillSlot ⟨x.slot, x.value, x.held, x.clipped⟩ b.slots, b.clipped + bit x.clipped⟩
  else b

/-- The samples from slot `i` to the end of the revolution, each empty slot completed as a held slot with the value before it
(R42, R59). `left` is the number of slots left, `last` the nearest lower value. -/
def completeFrom : Nat → Nat → Int → List SlotSample → List SlotSample
  | 0, _, _, _ => []
  | left + 1, i, last, [] => ⟨i, last, true, false⟩ :: completeFrom left (i + 1) last []
  | left + 1, i, last, x :: rest =>
    if x.slot = i then x :: completeFrom left (i + 1) x.value rest
    else ⟨i, last, true, false⟩ :: completeFrom left (i + 1) last (x :: rest)

/-- The completed slots of a buffer for a revolution of N samples; a missing buffer has no filled slot. -/
def completed (samples : Nat) (rev : RevId) : Option RevBuffer → List SlotSample
  | some b => if b.rev = rev then completeFrom samples 0 0 b.slots else completeFrom samples 0 0 []
  | none => completeFrom samples 0 0 []

/-- The clipped count of a buffer. -/
def clippedCount (rev : RevId) : Option RevBuffer → Nat
  | some b => if b.rev = rev then b.clipped else 0
  | none => 0

/-- The held count: slots that carry the held mark (R42). -/
def heldCount (slots : List SlotSample) : Nat := (slots.filter SlotSample.held).length

/-! ### The verdict (R43 to R45) -/

inductive Verdict where
  | accepted | virtual | unsteady | clipped | held
deriving DecidableEq, Repr

/-- The first reason that applies (R43). -/
def verdict (rev : OpenRev) (clipped held : Nat) : Verdict :=
  if rev.virtual then .virtual
  else if rev.unsteady then .unsteady
  else if clipped > 0 then .clipped
  else if held > rev.samples / 32 then .held
  else .accepted

/-- The count of the verdict rises (R44). -/
def RevCounts.counted (c : RevCounts) : Verdict → RevCounts
  | .accepted => { c with accepted := satAdd max16 c.accepted 1 }
  | .virtual => { c with virtual := satAdd max16 c.virtual 1 }
  | .unsteady => { c with unsteady := satAdd max16 c.unsteady 1 }
  | .clipped => { c with clipped := satAdd max16 c.clipped 1 }
  | .held => { c with held := satAdd max16 c.held 1 }

/-- The clip run after a close, which returns to 0 when it would reach 8 (R45). -/
def clipRunAfter (run clipped : Nat) : Nat := if clipped = 0 ∨ run + 1 ≥ 8 then 0 else run + 1

/-- The SENSOR_SATURATED alert of a close, when the clip run would reach 8 (R45). -/
def saturatedAlert (va : Fin 6) (run clipped : Nat) : Option Alert :=
  if clipped > 0 ∧ run + 1 ≥ 8 then
    some { kind := .sensorSaturated, severity := .warn, source := .input (.va va), sub := none, detail := some clipped,
           threshold := some 8, snapshot := .absent }
  else none

/-! ### The TSA record (R46 to R51) -/

/-- The accumulators after an update with an effective shift; those beyond the revolution's slots are kept (R47). -/
def averaged (shift : Nat) : List Int → List Int → List Int
  | a :: as, x :: xs => (a + sar (256 * x - a) shift) :: averaged shift as xs
  | as, [] => as
  | [], x :: xs => 256 * x :: averaged shift [] xs

/-- The effective shift of an update (R47). -/
def Sav.effectiveShift (v : Sav) : Nat := min v.settings.k (Nat.log2 (v.n + 1))

/-- A clear: n becomes 0, and N becomes the owning channel's when there is one (R51). -/
def Sav.cleared (v : Sav) (ownerSamples : Option Nat) : Sav := { v with n := 0, samples := ownerSamples.getD v.samples }

/-- The record an accepted revolution of `samples` slots is averaged into: cleared first when its N differs (R48). -/
def Sav.forSamples (v : Sav) (samples : Nat) : Sav := if samples = v.samples then v else { v with n := 0, samples := samples }

/-- The record after an accepted revolution (R47, R48). -/
def Sav.updated (v : Sav) (samples : Nat) (values : List Int) : Sav :=
  let w := v.forSamples samples
  { w with acc := averaged w.effectiveShift w.acc values, n := satAdd max16 w.n 1 }

/-- The copies handed to the evaluator after an update (R49). -/
def Sav.copies (v : Sav) (revNumber : Nat) (raw : List Int) : Copies where
  revNumber := revNumber
  samples := v.samples
  n := v.n
  warm := v.warm
  avg := v.averages
  raw := raw

/-- Clear an input's TSA record (R51). -/
def State.clearTsa (s : State) (va : Fin 6) : State :=
  let v := s.sav.get va
  s.setSav va (v.cleared (v.owner.map fun ch => (s.track ch).settings.n))

/-- Clear the TSA record of every VA input in a channel's list (R7, R19, R20). -/
def State.clearList (s : State) (ch : Channel) : State := (s.vaList ch).foldl State.clearTsa s

/-- Clear all six TSA records (R52). -/
def State.clearAllTsa (s : State) : State := allVa.foldl State.clearTsa s

/-! ### The close (R42 to R49) -/

/-- One input's part of a TL or TH close: its buffer is completed and judged, its counts move, and an accepted revolution is
averaged and starts the evaluator. -/
def State.closeInput (rev : OpenRev) (revNumber : Nat) (s : State) (va : Fin 6) : State :=
  let v := s.sav.get va
  let slots := completed rev.samples rev.id v.buffer
  let clipped := clippedCount rev.id v.buffer
  let d := verdict rev clipped (heldCount slots)
  let raw := slots.map SlotSample.value
  let judged := { v with counts := v.counts.counted d, clipRun := clipRunAfter v.clipRun clipped, buffer := none }
  let t := (s.setSav va judged).raiseAll (saturatedAlert va v.clipRun clipped).toList
  if d = .accepted then
    let u := judged.updated rev.samples raw
    (t.setSav va u).startComputation va (u.copies revNumber raw)
  else t

/-- A TL or TH close, handed to the averager (R16). -/
def State.closeShaft (s : State) (ch : Channel) (rev : OpenRev) (revNumber : Nat) : State :=
  (s.vaList ch).foldl (State.closeInput rev revNumber) s

/-- Set the buffer of every VA input in a channel's list: empty for an opened revolution, or none (R39, R41). -/
def State.setBuffers (s : State) (ch : Channel) (b : Option RevBuffer) : State :=
  (s.vaList ch).foldl (fun t va => t.setSav va { t.sav.get va with buffer := b }) s

/-! ### Requests -/

/-- CLEAR_AVERAGE for one input (R55). -/
def State.clearAverage (resetLevels : Bool) (s : State) (va : Fin 6) : State :=
  let t := s.clearTsa va
  if resetLevels then t.setInd va (t.ind.get va).relaxed else t

/-- CLEAR_AVERAGE (R55). -/
def serveClearAverage (raw : Nat) (resetLevels : Bool) (s : State) : State × Answer :=
  if raw = namedValue then (allVa.foldl (State.clearAverage resetLevels) s, .bare .ok)
  else
    match vaOf raw with
    | some va => (s.clearAverage resetLevels va, .bare .ok)
    | none => (s, .bare .badValue)

/-- The fields both replies of READ_TSA carry before the values (R56). -/
def Sav.standing (v : Sav) (va : Fin 6) (start count : Nat) : List Field :=
  [u1 va.val, u1 (ownerNumber v.owner), u2 v.samples, u2 v.n, u1 v.settings.k, mark v.warm, u2 v.counts.accepted,
    u2 v.counts.virtual, u2 v.counts.unsteady, u2 v.counts.clipped, u2 v.counts.held, u1 v.clipRun, u1 start, u1 count]

/-- READ_TSA (R56). -/
def serveReadTsa (raw start count : Nat) (s : State) : State × Answer :=
  match vaOf raw with
  | none => (s, .bare .badValue)
  | some va =>
    let v := s.sav.get va
    if count = 0 ∨ count > 64 then (s, .bare .badValue)
    else if v.n = 0 then (s, ⟨.empty, v.standing va start count⟩)
    else if start + count > v.samples then (s, .bare .badValue)
    else (s, .ok (v.standing va start count ++ ((v.averages.drop start).take count).map i2))

end Sys2Proof.Machine
end

