-- ==== Sys2Proof/Machine/Grid.lean ====
section
/-! DEFINITION. Grid Analyzer (chapter 4, R58 to R74). -/

namespace Sys2Proof.Machine

/-! ### The cycle (R59 to R62) -/

/-- Samples in a grid cycle. -/
def cycleSamples : Nat := 64

/-- The phases whose voltage and current are both present (R62). -/
def State.completePhases (s : State) : List (Fin 3) :=
  [0, 1, 2].filter fun p => gvIndex p ∈ s.present ∧ giIndex p ∈ s.present

/-- The completed slots of a grid input's cycle (R59). -/
def State.cycleSlots (s : State) (rev : RevId) (g : Fin 6) : List SlotSample :=
  completed cycleSamples rev (s.gra.inputs.get g).buffer

/-- The values of a grid input's completed cycle. -/
def State.cycleValues (s : State) (rev : RevId) (g : Fin 6) : List Int := (s.cycleSlots rev g).map SlotSample.value

/-- The cycle's verdict (R59); clipping does not reject a cycle. -/
def State.cycleVerdict (s : State) (rev : OpenRev) : Verdict :=
  if rev.virtual then .virtual
  else if rev.unsteady then .unsteady
  else if s.present.any (fun g => heldCount (s.cycleSlots rev.id g) > 2) then .held
  else .accepted

/-- The count of the cycle's verdict rises (R60). -/
def CycleCounts.counted (c : CycleCounts) : Verdict → CycleCounts
  | .accepted => { c with accepted := satAdd max16 c.accepted 1 }
  | .virtual => { c with virtual := satAdd max16 c.virtual 1 }
  | .unsteady => { c with unsteady := satAdd max16 c.unsteady 1 }
  | .held => { c with held := satAdd max16 c.held 1 }
  | .clipped => c

/-- The grid orders, 1 to 25. -/
def gridOrders : List Nat := (List.range 25).map (· + 1)

/-- H_1 to H_25 of a cycle's values (R61). -/
def harmonics (values : List Int) : List Nat := gridOrders.map fun m => orderAmplitude m cycleSamples values

/-- The product sum of a phase (R62). -/
def productSum : List Int → List Int → Int
  | v :: vs, c :: cs => v * c + productSum vs cs
  | _, _ => 0

/-- P_cycle (R62). -/
def State.cyclePower (s : State) (rev : RevId) : Int :=
  (s.completePhases.map fun p => productSum (s.cycleValues rev (gvIndex p)) (s.cycleValues rev (giIndex p))).sum
    / (cycleSamples : Int)

/-! ### The block (R63 to R66) -/

/-- A block at its opening (R63). -/
def State.openedBlock (s : State) (start : Tick) : OpenBlock where
  accepted := 0
  rejected := 0
  squares := Tab.replicate 6 (List.replicate 25 0)
  powerSum := if s.completePhases = [] then none else some 0
  clipped := false
  start := start

/-- Square sums with a cycle's amplitudes added (R63). -/
def addSquares : List Nat → List Nat → List Nat
  | q :: qs, h :: hs => (q + h * h) :: addSquares qs hs
  | qs, _ => qs

/-- The block after an accepted cycle (R63). -/
def State.blockAccepting (s : State) (rev : RevId) (b : OpenBlock) : OpenBlock :=
  { b with
    accepted := b.accepted + 1
    squares :=
      Tab.ofFn fun g => if g ∈ s.present then addSquares (b.squares.get g) (harmonics (s.cycleValues rev g)) else b.squares.get g
    powerSum := b.powerSum.map fun p => p + s.cyclePower rev
    clipped := b.clipped || s.present.any fun g => (s.cycleSlots rev g).any SlotSample.clipped }

/-- The block after a rejected cycle (R63). -/
def OpenBlock.rejecting (b : OpenBlock) : OpenBlock := { b with rejected := satAdd max16 b.rejected 1 }

/-- Hb_1 to Hb_25 from the square sums of ten cycles (R64). -/
def blockAmplitudes (squares : List Nat) : List Nat := squares.map fun q => isqrt (q / 10)

/-- Hb_m of a list Hb_1 to Hb_25. -/
def amplitudeOf (hb : List Nat) (m : Nat) : Nat := hb.getD (m - 1) 0

/-- THD in per-mille, 0 without a fundamental (R64). -/
def distortion (hb : List Nat) : Nat :=
  if amplitudeOf hb 1 = 0 then 0
  else min 9999 (1000 * isqrt ((hb.drop 1).map fun h => h * h).sum / amplitudeOf hb 1)

/-- An input's results from its square sums (R64). -/
def gridResult (squares : List Nat) : GridResult :=
  let hb := blockAmplitudes squares
  ⟨hb, distortion hb, amplitudeOf hb 1 = 0⟩

/-- P_kW from the power sum of ten cycles (R65). -/
def blockPower (kp : Nat) (powerSum : Int) : Int := clampInt (-32768) 32767 (sar (powerSum / 10 * kp) 20)

/-! ### Limits (R67 to R69) -/

/-- limit_m of the settings, for orders 2 to 25 (R72). -/
def GridSettings.limit (t : GridSettings) (m : Nat) : Nat := t.limits.list.getD (m - 2) 0

/-- The per-mille value of an order (R67). -/
def perMille (hb : List Nat) (m : Nat) : Nat := min 9999 (1000 * amplitudeOf hb m / amplitudeOf hb 1)

/-- The orders 2 to 25 that exceed their limits (R67). -/
def exceedingOrders (t : GridSettings) (hb : List Nat) : List Nat :=
  (gridOrders.drop 1).filter fun m => t.limit m ≠ 0 ∧ amplitudeOf hb m * 1000 > t.limit m * amplitudeOf hb 1

/-- The worst of some orders in rising order: the largest per-mille value, the lowest such order (R67). -/
def worstOrder (hb : List Nat) : List Nat → Option Nat
  | [] => none
  | m :: rest =>
    match worstOrder hb rest with
    | none => some m
    | some w => if perMille hb w > perMille hb m then some w else some m

/-- The THD limit of a grid input (R67). -/
def GridSettings.thdLimit (t : GridSettings) (g : Fin 6) : Nat := if g.val < 3 then t.voltageThd else t.currentThd

/-- A limit state after a checked block (R68). -/
def LimitState.checked (l : LimitState) (exceeds : Bool) (worst : Option Nat) : LimitState :=
  match l.exceeded, exceeds with
  | false, true => if l.exceedRun + 1 ≥ 3 then ⟨true, 0, 0, worst⟩ else { l with exceedRun := l.exceedRun + 1 }
  | false, false => { l with exceedRun := 0 }
  | true, false => if l.withinRun + 1 ≥ 3 then LimitState.normal else { l with withinRun := l.withinRun + 1 }
  | true, true => { l with withinRun := 0 }

/-- The alert of a limit state's change, without its severity and snapshot (R69). -/
def limitAlert (g : Fin 6) (kind : AlertKind) (sub : Option Nat) (detail threshold : Nat) (v : Severity) (snap : SnapField) :
    Alert where
  kind := kind
  severity := v
  source := .input (gridInputOf g)
  sub := sub
  detail := some detail
  threshold := some threshold
  snapshot := snap

/-- Report a limit state's change: a snapshot and WARN on EXCEEDED, NOTE on the return, nothing without a change (R69). -/
def State.reportLimit (s : State) (before after : Bool) (body : SnapBody) (alert : Severity → SnapField → Alert) : State :=
  match before, after with
  | false, true => (s.takeSnapshot body).raise (alert .warn s.sns.offer)
  | true, false => s.raise (alert .note .absent)
  | _, _ => s

/-- The check of a GV input's harmonic state (R67 to R69). -/
def State.checkHarmonic (s : State) (g : Fin 6) (r : GridResult) (body : SnapBody) : State :=
  let i := s.gra.inputs.get g
  let worst := worstOrder r.hb (exceedingOrders s.gra.settings r.hb)
  let after := i.harmonic.checked worst.isSome worst
  let named := if after.exceeded then after.named else i.harmonic.named
  (s.setGridInput g { i with harmonic := after }).reportLimit i.harmonic.exceeded after.exceeded body
    (limitAlert g .gridHarmonic named (perMille r.hb (named.getD 0)) (s.gra.settings.limit (named.getD 0)))

/-- The THD test (R67). -/
def GridSettings.thdExceeds (t : GridSettings) (g : Fin 6) (thd : Nat) : Bool := t.thdLimit g ≠ 0 ∧ thd > t.thdLimit g

/-- The check of an input's THD state (R67 to R69). -/
def State.checkThd (s : State) (g : Fin 6) (r : GridResult) (body : SnapBody) : State :=
  let i := s.gra.inputs.get g
  let after := i.thd.checked (s.gra.settings.thdExceeds g r.thd) none
  (s.setGridInput g { i with thd := after }).reportLimit i.thd.exceeded after.exceeded body
    (limitAlert g .gridThd none r.thd (s.gra.settings.thdLimit g))

/-- One input's check at a block close: the harmonic state of a GV input before its THD state; an input without a fundamental
is not checked (R67, R69). -/
def State.checkInput (results : Tab 6 GridResult) (pkw : Option Int) (s : State) (g : Fin 6) : State :=
  let r := results.get g
  let body := SnapBody.grid g r.hb r.thd pkw
  if r.noFund then s
  else (if g.val < 3 then s.checkHarmonic g r body else s).checkThd g r body

/-- The limit checks of a block, in the order of the TG list; none when it is CLIPPED (R67, R69). -/
def State.checkLimits (s : State) (clipped : Bool) (results : Tab 6 GridResult) (pkw : Option Int) : State :=
  if clipped then s else s.present.foldl (State.checkInput results pkw) s

/-! ### Energy and power (R70, R71) -/

/-- One kWh in kW·ticks. -/
def kwhTicks : Nat := 7200000000

/-- The energy of a block: each whole kWh goes to the total and to the ENERGY items (R70). -/
def State.addEnergy (s : State) (pkw : Int) (elapsed : Nat) : State :=
  let sum := s.gra.remainder + (max 0 pkw).toNat * elapsed
  repeatTimes (fun t => t.accrue (onBasis .energy) 1) (sum / kwhTicks)
    { s with
      gra := { s.gra with energy := satAdd max32 s.gra.energy (sum / kwhTicks), remainder := sum % kwhTicks } }

/-- Power is known from this close (R71). -/
def State.refreshPower (s : State) (pkw : Int) : State :=
  { s with gra := { s.gra with power := some ⟨pkw, s.now⟩ } }

/-- What a block close with power does after the limit checks (R64, R65, R70, R71, R79, R115). R76 lets a reader of the regime at
this instant take it before or after the change that the close's class makes: that GRID_HARMONIC, GRID_THD and the ENERGY items'
ITEM_STATE of this close carry the regime before it is the model's choice (assumption 11). -/
def State.handPower (s : State) (pkw : Option Int) (elapsed : Nat) : State :=
  match pkw with
  | none => s
  | some p => (((s.addEnergy p elapsed).refreshPower p).classify p).gatherPower p

/-- The results of a closing block replace the last ones, and no block is open (R64). -/
def State.storeResults (s : State) (b : OpenBlock) (results : Tab 6 GridResult) (elapsed : Nat) (pkw : Option Int) : State :=
  { s with
    gra :=
      { s.gra with
        block := none
        blockCount := wrap32 (s.gra.blockCount + 1)
        last := some ⟨wrap32 (s.gra.blockCount + 1), elapsed, b.accepted, b.rejected, b.clipped, pkw⟩
        inputs :=
          Tab.ofFn fun g =>
            if g ∈ s.present then { s.gra.inputs.get g with result := some (results.get g) } else s.gra.inputs.get g } }

/-- The close of the tenth accepted cycle closes the block (R64). -/
def State.closeBlock (s : State) (b : OpenBlock) (closedAt : Tick) : State :=
  let results := b.squares.map gridResult
  let elapsed := min max32 (closedAt - b.start)
  let pkw := b.powerSum.map (blockPower s.gra.settings.kp)
  ((s.storeResults b results elapsed pkw).checkLimits b.clipped results pkw).handPower pkw elapsed

/-- A TG close: the cycle is completed, judged and enters the open block (R59, R63, R64). `closedAt` is the time of the edge. -/
def State.closeCycle (s : State) (rev : OpenRev) (closedAt : Tick) : State :=
  let d := s.cycleVerdict rev
  let b := s.gra.block.getD (s.openedBlock rev.openedAt)
  let b' := if d = .accepted then s.blockAccepting rev.id b else b.rejecting
  let t := { s with gra := { s.gra with counts := s.gra.counts.counted d, block := some b' } }
  if d = .accepted ∧ b'.accepted ≥ 10 then t.closeBlock b' closedAt else t

/-- Set the cycle buffer of every present input: empty for an opened cycle, or none (R58). -/
def State.setCycleBuffers (s : State) (b : Option RevBuffer) : State :=
  s.present.foldl (fun t g => t.setGridInput g { t.gra.inputs.get g with buffer := b }) s

/-- The open block is discarded (R66). -/
def State.discardBlock (s : State) : State := { s with gra := { s.gra with block := none } }

/-- Power becomes unknown, and the candidate with it (R71, R81). -/
def State.powerUnknown (s : State) : State :=
  ({ s with gra := { s.gra with power := none } }).clearCandidate

/-- Ticks for which power stays known after a block close with power (R71). -/
def powerFreshTicks : Nat := 10000000

/-- An accepted SET_SCAN: inputs that leave the TG list lose their results and states, inputs that join start afresh (R74). -/
def Gra.rescanned (g : Gra) (before after : List (Fin 6)) : Gra :=
  { g with
    inputs := Tab.ofFn fun i => if i ∈ before ↔ i ∈ after then g.inputs.get i else GridInput.afterStartUp }

/-! ### Requests -/

/-- No limit is above 9,999, and Kp fits (R72). -/
def gridFieldsValid (f : GridFields) : Bool :=
  f.limits.list.all (· ≤ 9999) && f.voltageThd ≤ 9999 && f.currentThd ≤ 9999 && f.kp ≤ max16

/-- SET_GRID (R72). -/
def serveSetGrid (f : GridFields) (s : State) : State × Answer :=
  if gridFieldsValid f then
    ({ s with gra := { s.gra with settings := ⟨f.limits, f.voltageThd, f.currentThd, f.kp⟩ } }, .bare .ok)
  else (s, .bare .badValue)

def LimitState.fields (l : LimitState) : List Field := [mark l.exceeded, u1 l.exceedRun, u1 l.withinRun]

/-- The fields READ_GRID carries in both replies (R73). The remainder's stated range needs more than 4 bytes; it is carried in
8, and TG's frequency, for which no range is stated, in 4 (assumption 12). -/
def State.gridStanding (s : State) (g : Fin 6) : List Field :=
  let i := s.gra.inputs.get g
  [u1 s.trk.tg.lock.code, u4 (s.trk.tg.rate .tg)] ++ s.gra.powerFields
    ++ [u4 s.gra.energy, ⟨8, s.gra.remainder⟩, u4 s.gra.blockCount, u2 s.gra.counts.accepted, u2 s.gra.counts.virtual,
      u2 s.gra.counts.unsteady, u2 s.gra.counts.held, mark (g ∈ s.present)]
    ++ i.thd.fields
    ++ optionalGroup (g.val < 3) (i.harmonic.fields ++ optionalNat 1 i.harmonic.named)

/-- The fields of an input's last block results (R73). -/
def blockFields (b : BlockInfo) (r : GridResult) : List Field :=
  [u4 b.number, u4 b.elapsed, u1 b.accepted, u2 b.rejected, mark b.clipped, mark r.noFund] ++ optional 2 b.pkw
    ++ [u2 r.thd] ++ r.hb.map u4

/-- READ_GRID (R73). -/
def serveReadGrid (raw : Nat) (s : State) : State × Answer :=
  match gridOf raw with
  | none => (s, .bare .badValue)
  | some g =>
    match s.gra.last, (s.gra.inputs.get g).result with
    | some b, some r => (s, .ok (s.gridStanding g ++ blockFields b r))
    | _, _ => (s, ⟨.empty, s.gridStanding g⟩)

end Sys2Proof.Machine
end

