-- ==== Sys2Proof/Machine/Acquisition.lean ====
section
/-! DEFINITION. Acquisition Sequencer (chapter 2, R29 to R37): scans, the arbiter, and the delivery of samples. -/

namespace Sys2Proof.Machine

def State.setScan (s : State) (ch : Channel) (x : Option Scan) : State :=
  { s with acq := { s.acq with scans := s.acq.scans.set ch x } }

def State.setConverter (s : State) (c : Option Conversion) : State := { s with acq := { s.acq with converter := c } }

/-! ### Delivery (R34, R35) -/

/-- The buffer a sample of an input goes to. -/
def State.bufferOf (s : State) (i : Input) : Option RevBuffer :=
  match i with
  | .va v => (s.sav.get v).buffer
  | .gv p => (s.gra.inputs.get (gvIndex p)).buffer
  | .gi p => (s.gra.inputs.get (giIndex p)).buffer

/-- Deliver a sample to the averager or to the Grid Analyzer; without a buffer it is dropped (R34, R40, R58). -/
def State.deliver (s : State) (x : Sample) : State :=
  match x.input with
  | .va v => s.setSav v { s.sav.get v with buffer := (s.sav.get v).buffer.map fun b => b.filled x }
  | .gv p =>
    s.setGridInput (gvIndex p)
      { s.gra.inputs.get (gvIndex p) with buffer := (s.gra.inputs.get (gvIndex p)).buffer.map fun b => b.filled x }
  | .gi p =>
    s.setGridInput (giIndex p)
      { s.gra.inputs.get (giIndex p) with buffer := (s.gra.inputs.get (giIndex p)).buffer.map fun b => b.filled x }

/-- The held value of an input in a revolution: its last value there, 0 before the first (R35). -/
def State.heldValue (s : State) (rev : RevId) (i : Input) : Int :=
  match s.bufferOf i with
  | some b => if b.rev = rev then ((b.slots.getLast?).map SlotSample.value).getD 0 else 0
  | none => 0

/-- Deliver the held sample of an entry that its scan did not convert (R32). -/
def State.deliverHeld (rev : RevId) (slot : Nat) (s : State) (i : Input) : State :=
  s.deliver ⟨rev, i, slot, s.heldValue rev i, true, false⟩

/-! ### The test signal (R37) -/

/-- The test value of a slot at N samples per revolution. -/
def testValue (slot samples : Nat) : Int := 4096 * sine (4 * slot * 256 / samples % 256) / 16384

/-- What replaces the converter's code in a conversion that begins now: the test value for a VA input in TEST. -/
def State.testCode (s : State) (i : Input) (slot samples : Nat) : Option Int :=
  if s.skd.mode = .test ∧ (vaIndex i).isSome then some (testValue slot samples) else none

/-! ### The arbiter (R30) -/

/-- The next entry of a channel's pending scan that has not begun. -/
def State.nextEntry (s : State) (ch : Channel) : Option (Scan × Input) :=
  match s.acq.scans.get ch with
  | some sc => (sc.entries[sc.position]?).map fun i => (sc, i)
  | none => none

/-- Begin the conversion of a scan's next entry (R31). -/
def State.beginConversion (s : State) (ch : Channel) (sc : Scan) (i : Input) (fromIdle : Bool) : State :=
  (s.setScan ch (some { sc with position := sc.position + 1 })).setConverter
    (some ⟨sc.rev, sc.slot, i, s.now, s.testCode i sc.slot sc.samples, fromIdle⟩)

/-- The arbiter: while the converter is free it begins the next entry of the pending scan of highest priority, TG, then TH,
then TL (R30). -/
def State.arbitrate (s : State) (fromIdle : Bool) : State :=
  match s.acq.converter, s.nextEntry .tg, s.nextEntry .th, s.nextEntry .tl with
  | none, some (sc, i), _, _ => s.beginConversion .tg sc i fromIdle
  | none, none, some (sc, i), _ => s.beginConversion .th sc i fromIdle
  | none, none, none, some (sc, i) => s.beginConversion .tl sc i fromIdle
  | _, _, _, _ => s

/-- The converter was idle before the scans of this instant were created: it is idle, or the conversion in progress began at this
instant for one of them (R30). -/
def State.wasIdle (s : State) : Bool :=
  match s.acq.converter with
  | none => true
  | some c => c.fromIdle ∧ c.began = s.now

/-- A conversion that began at this instant because a scan was created while the converter was idle: scans created at one
instant all exist before the arbiter acts, so its choice is made again (R30). -/
def State.withdrawn (s : State) (c : Conversion) : State :=
  match s.acq.scans.get c.rev.channel with
  | some sc => (s.setScan c.rev.channel (some { sc with position := sc.position - 1 })).setConverter none
  | none => s.setConverter none

/-- The arbiter after a scan is created. `wasIdle`: before the scans of this instant the converter was idle. -/
def State.arbitrateCreated (s : State) (wasIdle : Bool) : State :=
  match s.acq.converter with
  | none => s.arbitrate wasIdle
  | some c => if wasIdle then (s.withdrawn c).arbitrate true else s

/-! ### Ending scans (R32, R33) -/

/-- The conversion in progress belongs to a channel. -/
def State.converting (s : State) (ch : Channel) : Bool :=
  match s.acq.converter with
  | some c => c.rev.channel = ch
  | none => false

/-- A channel's scan ceases to be pending, and a conversion in progress for it is abandoned (R32, R33). -/
def State.dropScan (s : State) (ch : Channel) : State :=
  (s.setScan ch none).setConverter (if s.converting ch then none else s.acq.converter)

/-- The entries of a scan not converted to completion: those not begun, and the one in progress (R32). -/
def State.unconverted (s : State) (ch : Channel) (sc : Scan) : List Input :=
  sc.entries.drop (if s.converting ch then sc.position - 1 else sc.position)

/-- A channel's pending scan, if any, is ended by overrun: its unconverted entries are held (R32). -/
def State.overrun (s : State) (ch : Channel) : State :=
  match s.acq.scans.get ch with
  | some sc => (s.unconverted ch sc).foldl (State.deliverHeld sc.rev sc.slot) (s.dropScan ch)
  | none => s

/-! ### Strobes and completions (R29, R31) -/

/-- A strobe reaches the sequencer (R29): ignored without a scan list or an open revolution; else a pending scan is ended by
overrun and a new one created. A conversion that the overrun abandons may be one that scans of this instant still compete for. -/
def State.takeStrobe (s : State) (ch : Channel) (slot : Nat) : State :=
  match s.scanList ch, (s.track ch).rev with
  | i :: rest, some rev =>
    ((s.overrun ch).setScan ch (some ⟨rev.id, slot, rev.samples, i :: rest, 0⟩)).arbitrateCreated s.wasIdle
  | _, _ => s

/-- A scan with no entry left is complete and ceases to be pending (R31). -/
def State.retireScan (s : State) (ch : Channel) : State :=
  match s.acq.scans.get ch with
  | some sc => if sc.position ≥ sc.entries.length then s.setScan ch none else s
  | none => s

/-- The value a conversion yields: the test value it began with, or the converter's code (R31, R37). -/
def Conversion.value (c : Conversion) (code : Code) : Int := c.test.getD code.toInt

/-- A converted code at either extreme (R31). -/
def atExtreme (v : Int) : Bool := v = -32768 ∨ v = 32767

/-- A conversion completes: its sample is delivered, its scan may be complete, and the arbiter acts (R31). -/
def State.completeConversion (s : State) (c : Conversion) (code : Code) : State :=
  (((s.setConverter none).retireScan c.rev.channel).deliver
    ⟨c.rev, c.input, c.slot, c.value code, false, atExtreme (c.value code)⟩).arbitrate false

/-- Ticks of a conversion (R31). -/
def conversionTicks : Nat := 4

end Sys2Proof.Machine
end

