-- ==== Sys2Proof/Machine/Tracking.lean ====
section
/-! DEFINITION. Tracking Unit (chapter 1, R1 to R22), and the replacement of the scan table (R26 to R28), which discards its
revolutions. -/

namespace Sys2Proof.Machine

/-! ### Intervals (R4, R6) -/

/-- The interval between two edge times, in a counter that saturates (R4). -/
def intervalOf (before edge : Tick) : Nat := min max32 (edge - before)

/-- Inside the window; a saturated interval never is (R4). That an interval of exactly 4,294,967,295 ticks counts as saturated is
the model's choice (assumption 22). -/
def TrackSettings.inWindow (t : TrackSettings) (i : Nat) : Bool := t.tmin ≤ i ∧ i ≤ t.tmax ∧ i < max32

/-- |T − Tprev| × 8 ≤ Tprev (R6, R8). -/
def steady (i prev : Nat) : Bool := ((i : Int) - prev).natAbs * 8 ≤ prev

/-- The interval follows steadily on the last one, when there is one. -/
def steadyAfter (i : Nat) : Option Nat → Bool
  | some prev => steady i prev
  | none => false

/-- Strobes per interval (R1). -/
def TrackSettings.strobesPerInterval (t : TrackSettings) : Nat := t.n / t.z

/-- The deadline of a channel that follows pulses: floor(3 * Tprev / 2) ticks after the time it is counted from (R9, R10). -/
def Track.deadline (t : Track) : Option Tick :=
  match t.deadlineFrom, t.tprev with
  | some d, some prev => some (d + 3 * prev / 2)
  | _, _ => none

/-! ### Discarding and leaving lock (R5, R8, R10, R12) -/

/-- The receivers drop what they gathered for a channel's revolution (R12, R41, R58, R66). -/
def State.dropGathered (s : State) : Channel → State
  | .tl => s.setBuffers .tl none
  | .th => s.setBuffers .th none
  | .tg => (s.setCycleBuffers none).discardBlock

/-- Discard a channel's open revolution (R12): no strobe of the interval fires, the pending scan is abandoned, the receivers
drop what they gathered, and the arbiter acts (R33). -/
def State.discardRevolution (s : State) (ch : Channel) : State :=
  (((s.setTrack ch { s.track ch with rev := none, strobes := none }).dropScan ch).dropGathered ch).arbitrate s.wasIdle

/-- The blocks that read the lock state of a channel that has left LOCKED and HOLDOVER (R66, R77). -/
def State.lockLost (s : State) : Channel → State
  | .tl => s.park
  | .th => s
  | .tg => s.discardBlock

/-- A channel leaves LOCKED or HOLDOVER: its revolution is discarded and it has no deadline. -/
def State.leaveLock (s : State) (ch : Channel) (target : LockState) : State :=
  let s := s.discardRevolution ch
  (s.setTrack ch { s.track ch with lock := target, deadlineFrom := none }).lockLost ch

/-- A channel turned off holds no speed, no count and no reference, and watches no transition (R5). -/
def Track.turnedOff (t : Track) : Track :=
  { t with lock := .off, c := 0, tprev := none, ref := none, transition := none, deadlineFrom := none }

/-- Acquisition starts again (R19, R20). -/
def Track.restarted (t : Track) : Track := { t with c := 0, ref := none, tprev := none }

/-! ### Applying settings (R19, R20) -/

/-- Z or N changed: the way a revolution is cut into slots. -/
def cutChanged (old new : TrackSettings) : Bool := old.z ≠ new.z ∨ old.n ≠ new.n

/-- New settings in force, nothing staged; a change of edge drops a transition in the filter (R3). That p is kept when Z is lowered
outside LOCKED and HOLDOVER, or on leaving lock, so that READ_TRACK can then show a p at or above Z, is the model's choice (assumption
19). -/
def Track.withSettings (t : Track) (new : TrackSettings) : Track :=
  { t with
    settings := new
    staged := none
    transition := if t.settings.edge = new.edge then t.transition else none }

/-- A channel that does not follow pulses takes new settings (R5, R19). -/
def Track.applied (t : Track) (new : TrackSettings) : Track :=
  let w := t.withSettings new
  match t.lock with
  | .off => if new.enable then { w with lock := .acquiring, c := 0, ref := none, transition := none } else w
  | .acquiring =>
    if new.enable then
      if cutChanged t.settings new ∨ t.settings.edge ≠ new.edge then w.restarted else w
    else w.turnedOff
  | .stalled => if new.enable then w else w.turnedOff
  | .locked | .holdover => w

/-- Apply settings at once (R19). -/
def State.applyNow (s : State) (ch : Channel) (new : TrackSettings) : State :=
  let old := (s.track ch).settings
  let t := s.setTrack ch ((s.track ch).applied new)
  if cutChanged old new then t.clearList ch else t

/-- Staged settings are applied as R19 gives when the channel has left lock (R20). -/
def State.applyStagedNow (s : State) (ch : Channel) : State :=
  match (s.track ch).staged with
  | some new => s.applyNow ch new
  | none => s

/-- The effect of staged settings on the channel's state at a revolution close (R20's table). -/
def State.applyEffect (s : State) (ch : Channel) (old new : TrackSettings) : State :=
  if ¬ new.enable then
    let t := s.leaveLock ch .off
    t.setTrack ch (t.track ch).turnedOff
  else if old.z ≠ new.z ∨ old.edge ≠ new.edge then
    let t := s.leaveLock ch .acquiring
    t.setTrack ch { (t.track ch).restarted with transition := none }
  else s

/-- Staged settings are applied at a revolution close (R20). That N changed together with the edge asks for the TSA clear too is
the model's reading (assumption 21). -/
def State.applyStagedAtClose (s : State) (ch : Channel) : State :=
  match (s.track ch).staged with
  | some new =>
    let old := (s.track ch).settings
    let t := (s.setTrack ch ((s.track ch).withSettings new)).applyEffect ch old new
    if cutChanged old new then t.clearList ch else t
  | none => s

/-! ### Revolutions and their strobes (R7, R13 to R16) -/

/-- Open a revolution at an edge of time `edge` (R7, R15). -/
def State.openRevolution (s : State) (ch : Channel) (edge : Tick) (samples : Nat) (virtual : Bool) : State :=
  let t := s.track ch
  s.setTrack ch
    { t with
      rev := some ⟨⟨ch, t.nextSerial⟩, samples, false, virtual, 0, edge⟩
      nextSerial := t.nextSerial + 1 }

/-- The buffers of a channel's inputs start empty for its open revolution (R39, R58). -/
def State.freshBuffers (s : State) (ch : Channel) : State :=
  match (s.track ch).rev with
  | some rev =>
    match ch with
    | .tg => s.setCycleBuffers (some (RevBuffer.empty rev.id))
    | _ => s.setBuffers ch (some (RevBuffer.empty rev.id))
  | none => s

/-- The strobes of an edge taken at `taking`, strobe 0 already fired (R13). -/
def State.scheduleStrobes (s : State) (ch : Channel) (taking : Tick) : State :=
  let t := s.track ch
  if t.lock.following then
    let count := t.settings.strobesPerInterval
    s.setTrack ch { t with strobes := some ⟨taking, t.tprev.getD 0, count, t.p * count, 1⟩ }
  else s

/-- An edge that closes nothing starts its strobes, strobe 0 at once (R13). -/
def State.startStrobes (s : State) (ch : Channel) (taking : Tick) : State :=
  let t := s.track ch
  (s.scheduleStrobes ch taking).takeStrobe ch (t.p * t.settings.strobesPerInterval)

/-- A closed TL or TH revolution goes to the averager and the Maintenance Scheduler, a TG one to the Grid Analyzer (R16). -/
def State.handRevolution (s : State) (ch : Channel) (rev : OpenRev) (revNumber : Nat) (edge : Tick) : State :=
  match ch with
  | .tl => (s.closeShaft .tl rev revNumber).accrue (onShaft .tl) 1
  | .th => (s.closeShaft .th rev revNumber).accrue (onShaft .th) 1
  | .tg => s.closeCycle rev edge

/-- Hand on a closing revolution: the count rises and its tick length becomes the channel's measure of speed (R16 to R18). -/
def State.closeRevolution (s : State) (ch : Channel) (rev : OpenRev) (edge : Tick) : State :=
  let t := s.track ch
  let count := wrap32 (t.closedCount + 1)
  (s.setTrack ch { t with closedCount := count, lastTicks := some rev.ticks }).handRevolution ch rev count edge

/-- The edge at which p has returned to 0, in the order of R15. Without an open revolution (after a SET_SCAN discard) it only
opens one (R12), and staged settings wait for a close. -/
def State.turnRevolution (s : State) (ch : Channel) (edge taking : Tick) (virtual : Bool) : State :=
  let t := s.track ch
  match t.rev with
  | some rev =>
    let opened := (s.openRevolution ch edge (t.staged.getD t.settings).n virtual).takeStrobe ch 0
    (((opened.closeRevolution ch rev edge).freshBuffers ch).applyStagedAtClose ch).scheduleStrobes ch taking
  | none =>
    let opened := (s.openRevolution ch edge t.settings.n virtual).freshBuffers ch
    (opened.takeStrobe ch 0).scheduleStrobes ch taking

/-- An edge, real or virtual, taken by a channel that follows pulses: p advances, `ticks` is added to the open revolution, the
next deadline is counted from it, and it starts its strobes (R8 to R10). -/
def State.followEdge (s : State) (ch : Channel) (target : LockState) (edge taking : Tick) (tprev ticks : Nat)
    (unsteady virtual : Bool) : State :=
  let t := s.track ch
  let p := (t.p + 1) % t.settings.z
  let s :=
    s.setTrack ch
      { t with
        lock := target
        p := p
        tprev := some tprev
        ref := some edge
        deadlineFrom := some taking
        strobes := none
        rev :=
          t.rev.map fun r =>
            { r with ticks := r.ticks + ticks, unsteady := r.unsteady || unsteady, virtual := r.virtual || virtual } }
  if p = 0 then s.turnRevolution ch edge taking virtual else s.startStrobes ch taking

/-! ### Edges (R6 to R11) -/

/-- TL's entry to LOCKED makes the regime IDLING (R78). -/
def State.lockGained (s : State) : Channel → State
  | .tl => s.unpark
  | .th => s
  | .tg => s

/-- Entry to LOCKED from ACQUIRING (R7). -/
def State.enterLocked (s : State) (ch : Channel) (edge taking : Tick) : State :=
  let t := s.track ch
  let s := s.setTrack ch { t with lock := .locked, p := 0, deadlineFrom := some taking, lastTicks := none }
  let s := if t.settings.z > 1 then s.clearList ch else s
  (((s.lockGained ch).openRevolution ch edge t.settings.n false).freshBuffers ch).startStrobes ch taking

/-- The consistency count after an interval (R6). -/
def Track.countAfter (t : Track) (i : Nat) : Nat :=
  if t.settings.inWindow i then if t.c = 0 ∨ steadyAfter i t.tprev then t.c + 1 else 1 else 0

/-- A counted edge in ACQUIRING that ends an interval (R6). -/
def State.acquireEdge (s : State) (ch : Channel) (ref edge taking : Tick) : State :=
  let t := s.track ch
  let i := intervalOf ref edge
  let s := s.setTrack ch { t with c := t.countAfter i, tprev := some i, ref := some edge }
  if t.countAfter i ≥ 4 then s.enterLocked ch edge taking else s

/-- The frequency of the window limit that an interval crossed, in mHz (R22). -/
def TrackSettings.crossedLimit (t : TrackSettings) (i : Nat) : Nat :=
  floorDiv 2000000000 (if i < t.tmin then t.tmin else t.tmax)

/-- TG's GRID_RANGE alert for an interval outside its window (R22), its detail within the bound of R151; for an interval of 0 it is
a free value (assumption 1). -/
def gridRangeAlert (t : TrackSettings) (i : Nat) : Alert where
  kind := .gridRange
  severity := .warn
  source := .channel .tg
  sub := none
  detail := some (min max32 (floorDiv 2000000000 i) : Nat)
  threshold := some (t.crossedLimit i)
  snapshot := .absent

/-- An interval outside the window in LOCKED: the channel enters ACQUIRING and the edge becomes the reference (R8). -/
def State.losePace (s : State) (ch : Channel) (edge : Tick) (i : Nat) : State :=
  let settings := (s.track ch).settings
  let s := s.leaveLock ch .acquiring
  let s := s.setTrack ch { s.track ch with c := 0, ref := some edge, tprev := some i }
  let s := if ch = .tg then s.raise (gridRangeAlert settings i) else s
  s.applyStagedNow ch

/-- A counted edge in LOCKED that ends an interval (R8). -/
def State.lockedEdge (s : State) (ch : Channel) (ref edge taking : Tick) : State :=
  let t := s.track ch
  let i := intervalOf ref edge
  if t.settings.inWindow i then s.followEdge ch .locked edge taking i i (!steadyAfter i t.tprev) false
  else s.losePace ch edge i

/-- A counted edge of time `edge`, taken at `taking`, handled by the channel's state (R6, R8, R10, R11). Without a reference it
yields no interval and becomes the reference (R4). -/
def State.takeEdge (s : State) (ch : Channel) (edge taking : Tick) : State :=
  let t := s.track ch
  match t.lock, t.ref with
  | .off, _ => s
  | .acquiring, some ref => s.acquireEdge ch ref edge taking
  | .acquiring, none => s.setTrack ch { t with ref := some edge }
  | .locked, some ref => s.lockedEdge ch ref edge taking
  | .locked, none => s.setTrack ch { t with ref := some edge }
  | .holdover, _ => s.followEdge ch .locked edge taking (t.tprev.getD 0) (t.tprev.getD 0) false false
  | .stalled, _ => s.setTrack ch { t with lock := .acquiring, c := 0, ref := some edge }

/-- The filter confirms a transition (R3). -/
def State.confirmEdge (s : State) (ch : Channel) (x : Transition) : State :=
  (s.setTrack ch { s.track ch with transition := none }).takeEdge ch x.seenAt s.now

/-- The deadline in LOCKED: a virtual edge at this instant (R9). -/
def State.virtualEdge (s : State) (ch : Channel) : State :=
  let prev := (s.track ch).tprev.getD 0
  s.followEdge ch .holdover s.now s.now prev prev false true

/-- The TRACK_LOST alert (R22). -/
def trackLostAlert (ch : Channel) : Alert where
  kind := .trackLost
  severity := if ch = .tg then .warn else .note
  source := .channel ch
  sub := none
  detail := none
  threshold := none
  snapshot := .absent

/-- The deadline in HOLDOVER: the channel enters STALLED (R10, R11). -/
def State.stall (s : State) (ch : Channel) : State :=
  let s := s.leaveLock ch .stalled
  let s := s.setTrack ch { s.track ch with ref := none, stallCount := satAdd max16 (s.track ch).stallCount 1 }
  (s.raise (trackLostAlert ch)).applyStagedNow ch

/-- The level is the one a transition of the chosen polarity leads to (R3). -/
def edgeLeadsTo : Edge → Bool → Bool
  | .rising, high => high
  | .falling, high => !high

/-- A transition has held its level for its filter ticks (R3). -/
def Transition.held (x : Transition) (now : Tick) : Bool := x.seenAt + x.filter ≤ now

/-- The pulse input takes a level: a transition of the chosen polarity enters the filter, and a return to the old level before
its filter ticks have passed drops it; an OFF channel ignores its input (R3, R5). -/
def Track.lineChanged (t : Track) (high : Bool) (now : Tick) : Track :=
  if t.line = high then t
  else
    { t with
      line := high
      transition :=
        if t.lock = .off then none
        else if edgeLeadsTo t.settings.edge high then some ⟨now, t.settings.filter⟩
        else t.transition.filter fun x => x.held now }

/-- The instant of the first strobe that has not fired (R13). -/
def StrobeRun.due (r : StrobeRun) : Option Tick :=
  if r.next < r.count then some (r.base + r.next * r.interval / r.count) else none

/-- The next strobe of a channel fires (R13, R29). -/
def State.fireStrobe (s : State) (ch : Channel) (r : StrobeRun) : State :=
  (s.setTrack ch { s.track ch with strobes := some { r with next := r.next + 1 } }).takeStrobe ch (r.firstSlot + r.next)

/-! ### SET_TRACK and READ_TRACK (R2, R19 to R21) -/

/-- The settings a request carries. -/
def trackSettingsOf (f : TrackFields) : TrackSettings := ⟨f.enable, f.edge, f.z, f.n, f.tmin, f.tmax, f.filter⟩

/-- The values R2 allows a channel. -/
def TrackSettings.allowed (t : TrackSettings) (ch : Channel) : Bool :=
  decide (t.z ∈ [1, 2, 4, 8, 16, 32, 64]) && decide (t.n ∈ [64, 128, 256]) && (1 ≤ t.tmin && t.tmin < t.tmax && t.tmax ≤ max32)
    && t.filter ≤ max16
    && (ch ≠ .tg || (t.z = 1 && t.n = 64 && t.tmin = 30770 && t.tmax = 44444))

/-- SET_TRACK (R2, R19, R20). -/
def serveSetTrack (f : TrackFields) (s : State) : State × Answer :=
  match channelOf f.channel with
  | none => (s, .bare .badValue)
  | some ch =>
    if (trackSettingsOf f).allowed ch then
      if (s.track ch).lock.following then
        (s.setTrack ch { s.track ch with staged := some (trackSettingsOf f) }, .bare .staged)
      else (s.applyNow ch (trackSettingsOf f), .bare .ok)
    else (s, .bare .badValue)

/-- A rate in READ_TRACK's 4-byte field; a wider one has no stated form (assumption 3). -/
def rateOnLine (r : Nat) : Nat := if r ≤ max32 then r else Config.wideRate r

/-- READ_TRACK (R21). -/
def serveReadTrack (raw : Nat) (s : State) : State × Answer :=
  match channelOf raw with
  | none => (s, .bare .badValue)
  | some ch =>
    let t := s.track ch
    (s, .ok ([u1 t.lock.code, u1 t.c, u1 t.p] ++ optionalNat 4 t.tprev
      ++ [u4 (rateOnLine (t.rate ch)), u4 t.closedCount, u2 t.stallCount] ++ t.settings.fields
      ++ optionalGroup t.staged.isSome (t.staged.getD t.settings).fields))

/-! ### SET_SCAN (R26 to R28) -/

/-- The entries of a list up to its first stop mark, `taken` entries before; none when it reaches its eighth entry or the
table's last with the stop mark clear (R26). -/
def walkList : Nat → List ScanEntry → Option (List (Option Input))
  | _, [] => none
  | taken, e :: rest =>
    if e.stop then some [e.input]
    else if taken + 1 = 8 then none
    else (walkList (taken + 1) rest).map fun l => e.input :: l

/-- The kinds of input a channel's list may hold (R26). -/
def kindAllowed : Channel → Input → Bool
  | .tg, .va _ => false
  | .tg, _ => true
  | _, .va _ => true
  | _, _ => false

/-- A channel's list is well-formed: it ends, and holds no empty entry and no input of the wrong kind (R26). -/
def ScanTable.listValid (t : ScanTable) (ch : Channel) : Bool :=
  match t.starts.get ch with
  | none => true
  | some start =>
    match walkList 0 (t.entries.list.drop start.val) with
    | none => false
    | some l => l.all fun e => match e with | some i => kindAllowed ch i | none => false

/-- The table a request carries, when its inputs and start pointers are in range (R26). -/
def scanTableOf (f : ScanFields) : Option ScanTable :=
  match startOf f.startTl, startOf f.startTh, startOf f.startTg with
  | some tl, some th, some tg =>
    if f.entries.list.all fun e => (entryInputOf e.input).isSome then
      some ⟨f.entries.map fun e => ⟨(entryInputOf e.input).getD none, e.stop⟩, ⟨tl, th, tg⟩⟩
    else none
  | _, _, _ => none

/-- No input stands in two lists or twice in one. Two lists that share an entry share its input (R27). -/
def ScanTable.disjoint (t : ScanTable) : Bool := decide (t.list .tl ++ t.list .th ++ t.list .tg).Nodup

/-- Discard a channel's revolution when it has one (R28). -/
def State.discardIfOpen (s : State) (ch : Channel) : State :=
  if (s.track ch).rev.isSome then s.discardRevolution ch else s

/-- A VA input whose owning channel changes records the new one and has its record cleared (R28). -/
def State.moveInput (s : State) (va : Fin 6) : State :=
  let owner := s.acq.table.owner (.va va)
  if owner = (s.sav.get va).owner then s
  else (s.setSav va { s.sav.get va with owner := owner }).clearTsa va

/-- An accepted SET_SCAN (R28, R74). -/
def State.replaceTable (s : State) (t : ScanTable) : State :=
  let before := s.present
  let s := ((s.discardIfOpen .tl).discardIfOpen .th).discardIfOpen .tg
  let s := ((s.dropScan .tl).dropScan .th).dropScan .tg
  let s := { s with acq := { s.acq with table := t } }
  let s := allVa.foldl State.moveInput s
  { s with gra := s.gra.rescanned before s.present }

/-- SET_SCAN (R26 to R28): every BAD_VALUE check is made before the CONFLICT checks. -/
def serveSetScan (f : ScanFields) (s : State) : State × Answer :=
  match scanTableOf f with
  | none => (s, .bare .badValue)
  | some t =>
    if t.listValid .tl ∧ t.listValid .th ∧ t.listValid .tg then
      if t.disjoint then (s.replaceTable t, .bare .ok) else (s, .bare .conflict)
    else (s, .bare .badValue)

end Sys2Proof.Machine
end

