-- ==== Sys2Proof/Machine/Key.lean ====
section
/-! DEFINITION. Service Key Decoder (§8.4, R144 to R149). -/

namespace Sys2Proof.Machine

/-! ### Low periods and trains (R144, R145) -/

/-- 40 ms: the shortest pulse. -/
def shortestPulse : Nat := 80000

/-- 1.2 s: the longest pulse. -/
def longestPulse : Nat := 2400000

/-- 2 s of high end a train. -/
def trainGap : Nat := 4000000

/-- Seconds of the hold timer (R146). -/
def holdSeconds : Nat := 1800

/-- The train after a pulse: it opens with count 1, or its count rises (R144). -/
def trainAfterPulse (train : Option Nat) : Option Nat :=
  match train with
  | none => some 1
  | some n => some (satAdd 255 n 1)

/-- The train after a low period of some length (R144). -/
def trainAfterLow (train : Option Nat) (length : Nat) : Option Nat :=
  if length < shortestPulse then train else if length ≤ longestPulse then trainAfterPulse train else none

/-- KEY falls: a low period begins, unless the decoder still waits for the rise of R150. -/
def Skd.fallen (k : Skd) (now : Tick) : Skd :=
  if k.low then k else { k with low := true, fellAt := if k.awaitRise then none else some now }

/-- KEY rises: the low period is judged by its length (R144); the first rise after start-up with KEY low ends the wait (R150). -/
def Skd.risen (k : Skd) (now : Tick) : Skd :=
  if k.low then
    match k.fellAt with
    | some f =>
      { k with low := false, awaitRise := false, fellAt := none, roseAt := some now, train := trainAfterLow k.train (now - f) }
    | none => { k with low := false, awaitRise := false, roseAt := some now }
  else k

/-- The level of KEY while it is not watched (R150). -/
def Skd.unwatched (k : Skd) (low : Bool) : Skd := { k with low := low }

/-- The instant at which KEY has been low for more than 1.2 s (R144). -/
def Skd.longLowAt (k : Skd) : Option Tick :=
  match k.low, k.fellAt with
  | true, some f => some (f + longestPulse + 1)
  | _, _ => none

/-- The open train is aborted (R144). -/
def Skd.aborted (k : Skd) : Skd := { k with train := none }

/-- The instant at which an open train ends (R145). -/
def Skd.trainEndsAt (k : Skd) : Option Tick :=
  match k.low, k.train, k.roseAt with
  | false, some _, some r => some (r + trainGap)
  | _, _, _ => none

/-! ### The service mode (R146 to R149) -/

/-- The SERVICE_MODE alert (R149). -/
def serviceModeAlert (count : Nat) : Alert where
  kind := .serviceMode
  severity := .note
  source := .none
  sub := none
  detail := some count
  threshold := none
  snapshot := .absent

/-- A change between these modes enters TEST or leaves it (R149). -/
def touchesTest (old new : ServiceMode) : Bool := old = .test ∨ new = .test

/-- The service mode takes a value; a change has the effects of R149, a renewal none. -/
def State.setMode (s : State) (mode : ServiceMode) (count : Nat) : State :=
  let t := { s with skd := { s.skd with mode := mode } }
  if s.skd.mode = mode then t
  else (if touchesTest s.skd.mode mode then t.clearAllTsa else t).raise (serviceModeAlert count)

/-- The mode a train of a count leads to; `none` when it is ignored (R146). -/
def modeAfterTrain (mode : ServiceMode) (count : Nat) : Option ServiceMode :=
  match mode, count with
  | _, 3 => some .service
  | .normal, _ => none
  | _, 5 => some .test
  | _, 7 => some .normal
  | _, _ => none

/-- The hold timer in a mode entered or renewed now (R146). -/
def holdFrom (mode : ServiceMode) (now : Tick) : Option Tick :=
  match mode with
  | .normal => none
  | .service | .test => some (now + holdSeconds * ticksPerSecond)

/-- The train of a count ends (R145, R146). -/
def State.endTrain (s : State) (count : Nat) : State :=
  let t := { s with skd := { s.skd with train := none, lastTrain := count } }
  match modeAfterTrain s.skd.mode count with
  | some mode => ({ t with skd := { t.skd with hold := holdFrom mode s.now } }).setMode mode count
  | none => t

/-- The hold timer expires (R147). -/
def State.expireHold (s : State) : State :=
  ({ s with skd := { s.skd with hold := none } }).setMode .normal 0

end Sys2Proof.Machine
end

