-- ==== Sys2Proof/Machine/Startup.lean ====
section
/-! DEFINITION. Start-up, the loss of supply and the clock (chapter 11, R173). -/

namespace Sys2Proof.Machine

/-! ### Start-up (R180) -/

/-- The image start-up loads: the stored one when it is valid. -/
def StoredImage.usable : StoredImage → Option Image
  | .valid image => some image
  | .blank | .bad => none

/-- N of a VA input's record after start-up: the owning channel's, or 256 (R57). -/
def Image.samplesOf (image : Image) (va : Fin 6) : Nat :=
  match image.scan.owner (.va va) with
  | some ch => (image.track.get ch).n
  | none => 256

/-- The averager of a VA input after start-up (R57). -/
def Image.savOf (image : Image) (va : Fin 6) : Sav :=
  Sav.afterStartUp (image.inputs.get va) (image.scan.owner (.va va)) (image.samplesOf va)

/-- The store after start-up: the image stands, nothing is in flight or pending (R178). -/
def Sst.afterStartUp (stored : StoredImage) : Sst where
  image := stored
  inFlight := none
  pendingWrite := false
  lastFailed := false
  loadedValid := stored.usable.isSome
  autosave := 0

/-- Every block at its reset values with an image's contents loaded (R180, steps 1, 3 and 4). The input lines keep their levels,
and commands that wait go on waiting. -/
def State.loadedFrom (s : State) (image : Image) : State where
  phase := .startup
  now := s.now
  trk :=
    ⟨Track.afterStartUp s.trk.tl.line image.track.tl, Track.afterStartUp s.trk.th.line image.track.th,
      Track.afterStartUp s.trk.tg.line image.track.tg⟩
  acq := ⟨image.scan, ⟨none, none, none⟩, none⟩
  sav := Tab.ofFn image.savOf
  ind := Tab.replicate 6 Ind.afterStartUp
  gra := Gra.afterStartUp image.grid
  rgc := Rgc.afterStartUp image.regime
  icm := Icm.afterStartUp image.ice image.curve image.baseline image.learnedCount image.icing
  msc := image.items.map StoredItem.loaded
  skd := Skd.afterStartUp s.skd.low
  alt := Alt.afterStartUp
  sns := Sns.afterStartUp
  lnk := Lnk.afterStartUp s.lnk.lineLow
  clk := { s.clk with farm := none }
  sst := Sst.afterStartUp s.sst.image
  pending := s.pending

/-- The STORE_DEFAULTS alert (R180). -/
def storeDefaultsAlert : Alert where
  kind := .storeDefaults
  severity := .warn
  source := .none
  sub := none
  detail := none
  threshold := none
  snapshot := .absent

/-- Start-up up to its end (R180, steps 1 to 4). Device seconds go on (R173). That STORE_DEFAULTS after a RESET begun in SERVICE or
TEST carries neither flag is the model's choice (assumption 18). -/
def State.startUp (s : State) : State :=
  match s.sst.image.usable with
  | some image => s.loadedFrom image
  | none => (s.loadedFrom Image.defaults).raise storeDefaultsAlert

/-- The Icing Monitor at the end of start-up: the evaluation clock starts, and a restored THAW starts T_thaw (R114, R130). -/
def Icm.atStartupEnd (m : Icm) (now : Tick) : Icm :=
  { m with
    nextEval := some (now + m.settings.period * ticksPerSecond)
    tThaw := if m.state = .thaw then .running (now + m.settings.tThaw * ticksPerSecond) else m.tThaw }

/-- The end of start-up (R180, step 5). -/
def State.endStartup (s : State) : State :=
  { s with
    phase := .running
    alt := s.alt.withAttn .running
    icm := s.icm.atStartupEnd s.now
    skd := { s.skd with awaitRise := s.skd.low }
    sst := { s.sst with autosave := 0 } }

/-! ### Supply (R177, R180) -/

/-- A write cut short by the loss of supply leaves a bad image (R177). -/
def Sst.cutShort (t : Sst) : StoredImage := if t.inFlight.isSome then .bad else t.image

/-- A channel without supply. -/
def Track.unpowered (t : Track) (settings : TrackSettings) : Track := { Track.afterStartUp t.line settings with lock := .off }

/-- The part without supply: only the image is kept, and the levels of its input lines are still there. Its own state is held at
the values of a blank start-up, and its output lines are free (assumptions 2 and 14). -/
def State.unpowered (s : State) : State :=
  let t := s.loadedFrom Image.defaults
  { t with
    phase := .off
    now := 0
    trk :=
      ⟨s.trk.tl.unpowered TrackSettings.defaults.tl, s.trk.th.unpowered TrackSettings.defaults.th,
        s.trk.tg.unpowered TrackSettings.defaults.tg⟩
    icm := { t.icm with icestop := Config.unpoweredLine 0 }
    alt := { t.alt with attn := Config.unpoweredLine 1 }
    lnk := Lnk.afterStartUp false
    clk := ⟨0, ticksPerSecond, none⟩
    sst := Sst.afterStartUp s.sst.cutShort }

/-- Power-on: time and device seconds start at 0, and start-up begins (R173, R180). A part that still has supply loses it first
(assumption 14). -/
def State.powerOn (s : State) : State := s.unpowered.startUp

/-! ### The clock (R173) -/

/-- The clocks at an advance of device seconds. -/
def Clock.advanced (c : Clock) : Clock where
  deviceSeconds := wrap32 (c.deviceSeconds + 1)
  nextSecond := c.nextSecond + ticksPerSecond
  farm := c.farm.map fun f => wrap32 (f + 1)

/-- An advance of device seconds while the part runs: the clocks advance and the readers that count seconds take their step. -/
def State.deviceSecond (s : State) : State :=
  ({ s with clk := s.clk.advanced }).secondForItems.countAutosave

/-- An advance of device seconds in the present phase: during start-up only the clock goes on (R173). -/
def State.tickSecond (s : State) : State :=
  match s.phase with
  | .off => s
  | .startup => { s.advance s.clk.nextSecond with clk := s.clk.advanced }
  | .running => (s.advance s.clk.nextSecond).deviceSecond

end Sys2Proof.Machine
end

