-- ==== Sys2Proof/Machine/Reports.lean ====
section
/-! DEFINITION. The requests of the Alert List, the Snapshot Stack and the Link Port: FETCH (R158), SNAP_READ (R162), SNAP_POP
(R163), HELLO (R171), STATUS (R172) and TIME (R174). -/

namespace Sys2Proof.Machine

/-! ### FETCH (R158) -/

/-- Records carried in one FETCH reply. -/
def fetchCount : Nat := 4

/-- The alert list after a FETCH: the records carried are gone, the overflow flag is clear, and ATTN follows. -/
def Alt.fetched (l : Alt) (phase : Phase) : Alt :=
  ({ l with records := l.records.drop fetchCount, overflow := false }).withAttn phase

/-- FETCH (R158). -/
def serveFetch (s : State) : State × Answer :=
  let carried := s.alt.records.take fetchCount
  ({ s with alt := s.alt.fetched s.phase },
    ⟨if s.alt.records = [] then .empty else .ok,
      [u1 (s.alt.records.length - fetchCount), mark s.alt.overflow, u1 carried.length] ++ carried.flatMap AlertRecord.fields⟩)

/-! ### SNAP_READ and SNAP_POP (R162, R163) -/

/-- The fields of the header of a SNAP_READ reply and the values after it (R176). -/
def Snapshot.readFields (p : Snapshot) (depth offset count : Nat) : List Field :=
  [u1 depth, u4 p.number] ++ p.body.kindFields ++ [u1 p.flags, u4 p.deviceSeconds, u4 (p.farm.getD 0)] ++ p.body.fields
    ++ [u2 offset, u1 count] ++ (p.body.values.drop offset).take count

/-- SNAP_READ (R162). -/
def serveSnapRead (offset count : Nat) (s : State) : State × Answer :=
  if count = 0 ∨ count > 64 then (s, .bare .badValue)
  else
    match s.sns.stack.getLast? with
    | none => (s, ⟨.empty, [u1 0]⟩)
    | some top =>
      if offset + count > top.body.values.length then (s, .bare .badValue)
      else (s, .ok (top.readFields s.sns.stack.length offset count))

/-- SNAP_POP (R163). -/
def serveSnapPop (number : Nat) (s : State) : State × Answer :=
  match s.sns.stack.getLast? with
  | none => (s, .bare .empty)
  | some top =>
    if top.number ≠ number then (s, ⟨.conflict, [u4 top.number]⟩)
    else
      ({ s with sns := { s.sns with stack := s.sns.stack.dropLast } },
        .ok [u4 top.number, u1 (s.sns.stack.length - 1)])

/-! ### HELLO and STATUS (R171, R172) -/

/-- The characters of the family and part names, one byte each. -/
def nameFields : List Field := ("BULTARA".toList ++ "WM-6".toList).map fun c => u1 c.toNat

/-- The capacities in the order of R171. -/
def capacities : List Nat := [3, 12, 6, 24, 8, 8, 16, 32, 6, 250, 64]

/-- HELLO (R171). -/
def serveHello (s : State) : State × Answer := (s, .ok (nameFields ++ [u1 1] ++ capacities.map u1))

/-- The store's standing (R172, R178). -/
def Sst.fields (t : Sst) : List Field :=
  [mark t.inFlight.isSome, mark t.pendingWrite, mark t.lastFailed, mark t.loadedValid]

/-- STATUS (R172). -/
def serveStatus (s : State) : State × Answer :=
  (s, .ok ([u1 s.trk.tl.lock.code, u1 s.trk.th.lock.code, u1 s.trk.tg.lock.code, u1 s.rgc.regime.val, u1 s.rgc.active.val,
      u1 s.skd.mode.code, u1 s.icm.state.code, mark s.icm.icestop, u1 s.alt.records.length, mark s.alt.overflow, mark s.alt.attn,
      u1 s.sns.stack.length]
    ++ s.sst.fields ++ [u4 s.clk.deviceSeconds, mark s.clk.farm.isSome] ++ optionalNat 4 s.clk.farm))

/-! ### TIME (R174) -/

/-- Farm time takes a value, CALENDAR items without a start begin from it, and every CALENDAR item recounts (R137, R174). -/
def State.setFarm (s : State) (farm : Nat) : State :=
  ({ s with clk := { s.clk with farm := some farm }, msc := s.msc.map (Item.withStart farm) }).recountCalendars

/-- TIME (R174). -/
def serveTime (farm : Nat) (s : State) : State × Answer :=
  if farm ≤ max32 then (s.setFarm farm, .ok (optionalNat 4 s.clk.farm ++ [u4 farm])) else (s, .bare .badValue)

end Sys2Proof.Machine
end

