-- ==== Sys2Proof/Machine/Wire.lean ====
section
/-! DEFINITION. The line's bytes: fields and frames as they are sent, the CRC, and the requests a payload carries (R166, R168,
R170, R176). -/

namespace Sys2Proof.Machine

/-! ### Sending (R166, R170) -/

/-- Byte `k` of a value, the lowest byte numbered 0; two's complement below 0. -/
def byteOf (v : Int) (k : Nat) : Byte := BitVec.ofInt 8 (v / (256 ^ k : Nat))

/-- The `width` bytes of a value, high byte first. -/
def bytesOf (v : Int) : Nat → List Byte
  | 0 => []
  | k + 1 => byteOf v k :: bytesOf v k

/-- A field's bytes. -/
def Field.bytes (f : Field) : List Byte := bytesOf f.value f.width

/-- A reply's payload: its status code and its fields (R170). -/
def Reply.payload (r : Reply) : List Byte := bytesOf r.status.code 1 ++ r.fields.flatMap Field.bytes

/-- One shift of the CRC register (R166). -/
def crcShift (r : BitVec 16) : BitVec 16 := if r.msb then (r <<< 1) ^^^ 0x1021#16 else r <<< 1

/-- The CRC register after one byte (R166). -/
def crcByte (r : BitVec 16) (b : Byte) : BitVec 16 := repeatTimes crcShift 8 (r ^^^ (b.setWidth 16 <<< 8))

/-- The CRC of some bytes (R166). -/
def crc (bytes : List Byte) : BitVec 16 := bytes.foldl crcByte 0xFFFF#16

/-- The two CRC bytes, high byte first. -/
def crcBytes (body : List Byte) : List Byte := bytesOf (crc body).toNat 2

/-- The start byte (R166). -/
def startByte : Byte := 0xC3#8

/-- The bytes of a frame of a type and a payload (R166). -/
def frameBytes (type : Nat) (payload : List Byte) : List Byte :=
  let body := bytesOf payload.length 1 ++ bytesOf type 1 ++ payload
  startByte :: body ++ crcBytes body

/-- The bytes of a reply. -/
def Reply.bytes (r : Reply) : List Byte := frameBytes r.type r.payload

/-! ### Reading fields (R166) -/

/-- The whole number some bytes spell, high byte first. -/
def natOf (bytes : List Byte) : Nat := bytes.foldl (fun n b => 256 * n + b.toNat) 0

/-- The field of `width` bytes at an offset of a payload. -/
def natAt (p : List Byte) (offset width : Nat) : Nat := natOf ((p.drop offset).take width)

/-- A signed two-byte field. -/
def intAt (p : List Byte) (offset : Nat) : Int := (BitVec.ofNat 16 (natAt p offset 2)).toInt

/-- A choice between two values, numbered as its rule lists them: 0 the first, 1 the second. -/
def choiceAt {α : Type} (p : List Byte) (offset : Nat) (first second : α) : Option α :=
  match natAt p offset 1 with
  | 0 => some first
  | 1 => some second
  | _ => none

/-- Numbers in consecutive fields. -/
def natsAt (p : List Byte) (offset width : Nat) (n : Nat) : Tab n Nat :=
  Tab.ofFn fun i => natAt p (offset + width * i.val) width

/-! ### The request types (R168) -/

/-- The type byte of a request. -/
def requestType : Request → Nat
  | .hello => 0x01
  | .status => 0x02
  | .time _ => 0x03
  | .setTrack _ => 0x10
  | .readTrack _ => 0x11
  | .setScan _ => 0x12
  | .setInput _ => 0x18
  | .clearAverage _ _ => 0x19
  | .readTsa _ _ _ => 0x1A
  | .readIndicators _ => 0x1B
  | .setGrid _ => 0x20
  | .readGrid _ => 0x21
  | .setRegime _ => 0x28
  | .setProfile _ => 0x29
  | .readRegime _ => 0x2A
  | .ambient _ => 0x30
  | .setIce _ => 0x31
  | .setCurve _ => 0x32
  | .readIce => 0x33
  | .iceRelease => 0x34
  | .setItem _ => 0x38
  | .serviceDone _ => 0x39
  | .readItems _ _ => 0x3A
  | .fetch => 0x40
  | .snapRead _ _ => 0x41
  | .snapPop _ => 0x42
  | .save => 0x48
  | .reset => 0x49
  | .malformed type => type

/-- The payload length a request type allows; `none` for a type that is not in the table (R168). -/
def allowedLength (type : Nat) (payload : List Byte) : Option Nat :=
  match type with
  | 0x01 | 0x02 | 0x33 | 0x34 | 0x40 | 0x48 | 0x49 => some 0
  | 0x11 | 0x1B | 0x21 | 0x39 => some 1
  | 0x19 | 0x3A => some 2
  | 0x1A | 0x2A | 0x41 => some 3
  | 0x03 | 0x42 => some 4
  | 0x18 | 0x30 => some 6
  | 0x38 => some 14
  | 0x31 => some 15
  | 0x10 => some 16
  | 0x28 => some 20
  | 0x29 => some 35
  | 0x12 => some 51
  | 0x20 => some 54
  | 0x32 => some (1 + 4 * natAt payload 0 1)
  | _ => none

/-! ### The fields of each request, in the order of its rule -/

def trackFieldsAt (p : List Byte) : Option TrackFields :=
  match choiceAt p 1 true false, choiceAt p 2 Edge.rising Edge.falling with
  | some enable, some edge =>
    some ⟨natAt p 0 1, enable, edge, natAt p 3 1, natAt p 4 2, natAt p 6 4, natAt p 10 4, natAt p 14 2⟩
  | _, _ => none

def scanFieldsAt (p : List Byte) : Option ScanFields :=
  if (List.range 24).all fun i => (choiceAt p (2 * i + 1) true false).isSome then
    some
      { entries := Tab.ofFn fun i => ⟨natAt p (2 * i.val) 1, (choiceAt p (2 * i.val + 1) true false).getD false⟩
        startTl := natAt p 48 1, startTh := natAt p 49 1, startTg := natAt p 50 1 }
  else none

def gridFieldsAt (p : List Byte) : GridFields := ⟨natsAt p 0 2 24, natAt p 48 2, natAt p 50 2, natAt p 52 2⟩

def regimeFieldsAt (p : List Byte) : RegimeFields := ⟨natsAt p 0 2 6, natsAt p 12 1 8⟩

def profileFieldsAt (p : List Byte) : ProfileFields where
  profile := natAt p 0 1
  input := natAt p 1 1
  levels := Tab.ofFn fun i => ⟨natAt p (2 + 4 * i.val) 2, natAt p (4 + 4 * i.val) 2⟩
  persistence := natAt p 34 1

def iceFieldsAt (p : List Byte) : Option IceFields :=
  (choiceAt p 14 true false).map fun zero =>
    ⟨intAt p 0, natAt p 2 1, natAt p 3 2, natAt p 5 2, natAt p 7 2, natAt p 9 2, natAt p 11 2, natAt p 13 1, zero⟩

def curveAt (p : List Byte) : List CurvePoint :=
  (List.range (natAt p 0 1)).map fun i => ⟨natAt p (1 + 4 * i) 2, natAt p (3 + 4 * i) 2⟩

/-- SET_ITEM's accrued choice. With basis NONE it is not judged, and a byte that names no choice is as good as any (R138). -/
def accruedChoiceAt (p : List Byte) : Option AccruedChoice :=
  match choiceAt p 13 AccruedChoice.keep AccruedChoice.zero with
  | some choice => some choice
  | none => if natAt p 3 1 = basisNumber .none then some .keep else none

def itemFieldsAt (p : List Byte) : Option ItemFields :=
  (accruedChoiceAt p).map fun choice =>
    ⟨natAt p 0 1, natAt p 1 2, natAt p 3 1, natAt p 4 1, natAt p 5 4, natAt p 9 4, choice⟩

/-- READ_REGIME's row selection, behind its presence mark: 0 absent, 1 present (R166). That another mark is answered BAD_VALUE, as a
choice byte without a value is, is the model's choice (assumption 13). -/
def rowSelectionAt (p : List Byte) : Option (Option RowSelection) :=
  choiceAt p 0 none (some ⟨natAt p 1 1, natAt p 2 1⟩)

/-- The request whose choice fields could be read, or the malformed request of its type. -/
def requestOr (type : Nat) : Option Request → Request
  | some r => r
  | none => .malformed type

/-- The request of a type and a payload of allowed length; a type outside the table spells none (R168). -/
def requestOf (type : Nat) (p : List Byte) : Option Request :=
  match type with
  | 0x01 => some .hello
  | 0x02 => some .status
  | 0x03 => some (.time (natAt p 0 4))
  | 0x10 => some (requestOr type ((trackFieldsAt p).map .setTrack))
  | 0x11 => some (.readTrack (natAt p 0 1))
  | 0x12 => some (requestOr type ((scanFieldsAt p).map .setScan))
  | 0x18 => some (.setInput ⟨natAt p 0 1, natAt p 1 1, natsAt p 2 1 4⟩)
  | 0x19 => some (requestOr type ((choiceAt p 1 true false).map (.clearAverage (natAt p 0 1))))
  | 0x1A => some (.readTsa (natAt p 0 1) (natAt p 1 1) (natAt p 2 1))
  | 0x1B => some (.readIndicators (natAt p 0 1))
  | 0x20 => some (.setGrid (gridFieldsAt p))
  | 0x21 => some (.readGrid (natAt p 0 1))
  | 0x28 => some (.setRegime (regimeFieldsAt p))
  | 0x29 => some (.setProfile (profileFieldsAt p))
  | 0x2A => some (requestOr type ((rowSelectionAt p).map .readRegime))
  | 0x30 => some (.ambient ⟨intAt p 0, intAt p 2, intAt p 4⟩)
  | 0x31 => some (requestOr type ((iceFieldsAt p).map .setIce))
  | 0x32 => some (.setCurve (curveAt p))
  | 0x33 => some .readIce
  | 0x34 => some .iceRelease
  | 0x38 => some (requestOr type ((itemFieldsAt p).map .setItem))
  | 0x39 => some (.serviceDone (natAt p 0 1))
  | 0x3A => some (.readItems (natAt p 0 1) (natAt p 1 1))
  | 0x40 => some .fetch
  | 0x41 => some (.snapRead (natAt p 0 2) (natAt p 2 1))
  | 0x42 => some (.snapPop (natAt p 0 4))
  | 0x48 => some .save
  | 0x49 => some .reset
  | _ => none

/-! ### What a host sends (R166) -/

/-- A choice between two values as its code. -/
def choiceBytes (isFirst : Bool) : List Byte := bytesOf (if isFirst then 0 else 1) 1

/-- The bytes of numbers in consecutive fields. -/
def natsBytes (width : Nat) (l : List Nat) : List Byte := l.flatMap fun (v : Nat) => bytesOf v width

def trackBytes (f : TrackFields) : List Byte :=
  bytesOf f.channel 1 ++ choiceBytes f.enable ++ choiceBytes (f.edge = .rising) ++ bytesOf f.z 1 ++ bytesOf f.n 2
    ++ bytesOf f.tmin 4 ++ bytesOf f.tmax 4 ++ bytesOf f.filter 2

def scanBytes (f : ScanFields) : List Byte :=
  (f.entries.list.flatMap fun e => bytesOf e.input 1 ++ choiceBytes e.stop) ++ bytesOf f.startTl 1 ++ bytesOf f.startTh 1
    ++ bytesOf f.startTg 1

def gridBytes (f : GridFields) : List Byte :=
  natsBytes 2 f.limits.list ++ bytesOf f.voltageThd 2 ++ bytesOf f.currentThd 2 ++ bytesOf f.kp 2

def profileBytes (f : ProfileFields) : List Byte :=
  bytesOf f.profile 1 ++ bytesOf f.input 1 ++ (f.levels.list.flatMap fun p => bytesOf p.warn 2 ++ bytesOf p.alarm 2)
    ++ bytesOf f.persistence 1

def rowBytes : Option RowSelection → List Byte
  | none => choiceBytes true ++ bytesOf 0 1 ++ bytesOf 0 1
  | some r => choiceBytes false ++ bytesOf r.profile 1 ++ bytesOf r.input 1

def iceBytes (f : IceFields) : List Byte :=
  bytesOf f.tice 2 ++ bytesOf f.hice 1 ++ bytesOf f.powerMargin 2 ++ bytesOf f.imbalanceMargin 2 ++ bytesOf f.period 2
    ++ bytesOf f.tConfirm 2 ++ bytesOf f.tThaw 2 ++ bytesOf f.iceInput 1 ++ choiceBytes f.zeroBaseline

def curveBytes (points : List CurvePoint) : List Byte :=
  bytesOf points.length 1 ++ points.flatMap fun p => bytesOf p.wind 2 ++ bytesOf p.power 2

def itemBytes (f : ItemFields) : List Byte :=
  bytesOf f.slot 1 ++ bytesOf f.tag 2 ++ bytesOf f.basis 1 ++ bytesOf f.source 1 ++ bytesOf f.interval 4 ++ bytesOf f.lead 4
    ++ choiceBytes (f.choice = .keep)

/-- The payload of a request, its fields in the order of its rule. -/
def requestPayload : Request → List Byte
  | .hello | .status | .readIce | .iceRelease | .fetch | .save | .reset | .malformed _ => []
  | .time farm => bytesOf farm 4
  | .setTrack f => trackBytes f
  | .readTrack channel => bytesOf channel 1
  | .setScan f => scanBytes f
  | .setInput f => bytesOf f.input 1 ++ bytesOf f.k 1 ++ natsBytes 1 f.orders.list
  | .clearAverage input resetLevels => bytesOf input 1 ++ choiceBytes resetLevels
  | .readTsa input start count => bytesOf input 1 ++ bytesOf start 1 ++ bytesOf count 1
  | .readIndicators input => bytesOf input 1
  | .setGrid f => gridBytes f
  | .readGrid input => bytesOf input 1
  | .setRegime f => natsBytes 2 f.breakpoints.list ++ natsBytes 1 f.map.list
  | .setProfile f => profileBytes f
  | .readRegime row => rowBytes row
  | .ambient f => bytesOf f.temperature 2 ++ bytesOf f.humidity 2 ++ bytesOf f.wind 2
  | .setIce f => iceBytes f
  | .setCurve points => curveBytes points
  | .setItem f => itemBytes f
  | .serviceDone slot => bytesOf slot 1
  | .readItems first count => bytesOf first 1 ++ bytesOf count 1
  | .snapRead offset count => bytesOf offset 2 ++ bytesOf count 1
  | .snapPop number => bytesOf number 4

/-- The frame of a request. -/
def requestFrame (r : Request) : List Byte := frameBytes (requestType r) (requestPayload r)

end Sys2Proof.Machine
end

