-- ==== Sys2Proof/Machine/Link.lean ====
section
/-! DEFINITION. Link Port (chapter 10): serving requests, the reply order, the frame receiver, and what the end of a store write
does to the request it serves (R167 to R170, R175, R178, R179, R181). -/

namespace Sys2Proof.Machine

/-! ### Serving (R169) -/

/-- Serve a request that is served in one step, by its owner's rule. SAVE and RESET are served by `State.serve`; a frame whose
choice field names no value is answered BAD_VALUE. -/
def State.answer (s : State) : Request → State × Answer
  | .hello => serveHello s
  | .status => serveStatus s
  | .time farm => serveTime farm s
  | .setTrack f => serveSetTrack f s
  | .readTrack channel => serveReadTrack channel s
  | .setScan f => serveSetScan f s
  | .setInput f => serveSetInput f s
  | .clearAverage input resetLevels => serveClearAverage input resetLevels s
  | .readTsa input start count => serveReadTsa input start count s
  | .readIndicators input => serveReadIndicators input s
  | .setGrid f => serveSetGrid f s
  | .readGrid input => serveReadGrid input s
  | .setRegime f => serveSetRegime f s
  | .setProfile f => serveSetProfile f s
  | .readRegime row => serveReadRegime row s
  | .ambient f => serveAmbient f s
  | .setIce f => serveSetIce f s
  | .setCurve points => serveSetCurve points s
  | .readIce => serveReadIce s
  | .iceRelease => serveIceRelease s
  | .setItem f => serveSetItem f s
  | .serviceDone slot => serveServiceDone slot s
  | .readItems first count => serveReadItems first count s
  | .fetch => serveFetch s
  | .snapRead offset count => serveSnapRead offset count s
  | .snapPop number => serveSnapPop number s
  | .save => (s, .bare .ok)
  | .reset => (s, .bare .ok)
  | .malformed _ => (s, .bare .badValue)

/-- The reply to a request of a type (R170). -/
def replyTo (type : Nat) (a : Answer) : Reply := ⟨type + 0x80, a.status, a.fields⟩

/-- The first pending place made ready (R169). -/
def fillFirst (r : Reply) (resets : Bool) : List Place → List Place
  | [] => []
  | p :: rest =>
    match p.reply with
    | none => ⟨some r, resets⟩ :: rest
    | some _ => p :: fillFirst r resets rest

/-- A place joins the end of the reply order (R169). -/
def State.addPlace (s : State) (p : Place) : State := { s with lnk := { s.lnk with order := s.lnk.order ++ [p] } }

/-- The served request's place becomes ready. -/
def State.makeReady (s : State) (r : Reply) (resets : Bool) : State :=
  { s with lnk := { s.lnk with order := fillFirst r resets s.lnk.order } }

/-- The reply at the head of the reply order is sent when it is ready and the line is free (R169). -/
def Lnk.kicked (l : Lnk) : Lnk :=
  match l.sending, l.order with
  | none, ⟨some r, _⟩ :: _ => { l with sending := some r.bytes }
  | _, _ => l

def State.kick (s : State) : State := { s with lnk := s.lnk.kicked }

/-- Serve SAVE: it starts a write, or joins or creates the pending one, and stays served (R179). -/
def State.serveSave (s : State) : State :=
  let waits := if s.sst.inFlight.isSome then SaveWaits.pending else SaveWaits.inFlight
  let t := s.requestWrite
  { t with lnk := { t.lnk with serving := some waits } }

/-- Serve RESET: answered OK, and frames that complete afterward are discarded (R175, R181). -/
def State.serveReset (s : State) : State :=
  let t := s.makeReady (replyTo (requestType .reset) (.bare .ok)) true
  { t with lnk := { t.lnk with reset := .served } }

/-- Serve a request whose place is the first pending one (R169). -/
def State.serve (s : State) (r : Request) : State :=
  match r with
  | .save => s.serveSave
  | .reset => s.serveReset
  | r => (s.answer r).1.makeReady (replyTo (requestType r) (s.answer r).2) false

/-- Places in the reply order (R169). -/
def orderCapacity : Nat := 16

/-- A frame that completes now is dropped: a RESET has been served, or the reply order is full (R169, R175). -/
def Lnk.drops (l : Lnk) : Bool := l.reset ≠ .none ∨ l.order.length ≥ orderCapacity

/-- A request takes its place and is served, made to wait, or answered BUSY (R169). -/
def State.dispatch (s : State) (r : Request) : State :=
  match s.lnk.serving, s.lnk.waiting with
  | none, _ => (s.addPlace ⟨none, false⟩).serve r
  | some _, none =>
    let t := s.addPlace ⟨none, false⟩
    { t with lnk := { t.lnk with waiting := some r } }
  | some _, some _ => s.addPlace ⟨some (replyTo (requestType r) (.bare .busy)), false⟩

/-- The frame of a request is complete (R169). -/
def State.submit (r : Request) (s : State) : State := if s.lnk.drops then s else (s.dispatch r).kick

/-! ### Receiving (R165, R167, R168) -/

/-- The type byte of replies to a frame whose type cannot be trusted (R170). -/
def untrusted : Nat := 0xFF

/-- A frame that fails a check gets its fault reply at once (R168, R169). -/
def State.faultReply (s : State) (type : Nat) (st : Status) : State := (s.addPlace ⟨some ⟨type, st, []⟩, false⟩).kick

/-- The checks of a complete frame: its length, type and payload bytes, and its CRC bytes (R168). -/
def State.judgeFrame (s : State) (body : List Byte) (sum : List Byte) : State :=
  let type := natAt body 1 1
  let payload := body.drop 2
  if s.lnk.drops then s
  else if crcBytes body ≠ sum then s.faultReply untrusted .badFrame
  else
    match allowedLength type payload, requestOf type payload with
    | some length, some r =>
      if payload.length = length then s.submit r else s.faultReply (type + 0x80) .badLength
    | _, _ => s.faultReply untrusted .badType

def State.setReceiver (s : State) (r : Receiver) : State := { s with lnk := { s.lnk with receiver := r } }

/-- The largest payload of a frame (R166). -/
def payloadCapacity : Nat := 250

/-- A byte received without a fault (R167). -/
def State.takeByte (s : State) (b : Byte) : State :=
  match s.lnk.receiver with
  | .hunting => if b = startByte then s.setReceiver (.receiving [] s.now) else s
  | .receiving [] _ => if b.toNat ≤ payloadCapacity then s.setReceiver (.receiving [b] s.now) else s.setReceiver .hunting
  | .receiving (l :: rest) _ =>
    let frame := l :: rest ++ [b]
    if frame.length = l.toNat + 4 then
      (s.setReceiver .hunting).judgeFrame (frame.take (l.toNat + 2)) (frame.drop (l.toNat + 2))
    else s.setReceiver (.receiving frame s.now)

/-- A framing fault: the frame in progress is discarded, and a break keeps the receiver from the line (R165, R167). -/
def State.takeFault (s : State) (lineHeldLow : Bool) : State :=
  { s with lnk := { s.lnk with receiver := .hunting, lineLow := lineHeldLow } }

/-- What the receiver judged at a byte's stop bit; it takes nothing while a break holds the line (R165). -/
def State.receive (a : Arrival) (s : State) : State :=
  if s.lnk.lineLow then s
  else
    match a with
    | .byte b => s.takeByte b
    | .fault lineHeldLow => s.takeFault lineHeldLow

/-- During start-up every byte is discarded, and only a break is noticed (R165, R180). -/
def State.receiveInStartup (a : Arrival) (s : State) : State :=
  match a with
  | .byte _ => s
  | .fault lineHeldLow => { s with lnk := { s.lnk with lineLow := s.lnk.lineLow || lineHeldLow } }

/-- Ticks of RECEIVING without a byte after which the frame is discarded (R167). -/
def frameTimeoutTicks : Nat := 40000

/-- The instant of the timeout. -/
def Receiver.timeoutAt : Receiver → Option Tick
  | .hunting => none
  | .receiving _ last => some (last + frameTimeoutTicks)

/-! ### The end of a reply (R169, R175) -/

/-- The reply being sent has been sent in full: its place leaves the order, the RESET's own starts the wait of R181, and the next
ready reply is sent. -/
def State.replySent (s : State) : State :=
  match s.lnk.sending, s.lnk.order with
  | some _, p :: rest =>
    ({ s with
        lnk := { s.lnk with sending := none, order := rest, reset := if p.resets then .replied else s.lnk.reset } }).kick
  | _, _ => s

/-- The reset may begin: the RESET reply has been sent and no write is in flight or pending (R181). -/
def State.resetReady (s : State) : Bool :=
  s.lnk.reset = .replied ∧ s.sst.inFlight = none ∧ s.sst.pendingWrite = false

/-! ### The end of a store write (R178, R179) -/

/-- The waiting request moves up (R169). -/
def State.serveWaiting (s : State) : State :=
  match s.lnk.waiting with
  | some r => ({ s with lnk := { s.lnk with waiting := none } }).serve r
  | none => s

/-- A SAVE's place becomes ready with the outcome of its write, and the waiting request is served (R169, R179). -/
def State.answerSave (s : State) (success : Bool) : State :=
  let t := s.makeReady (replyTo (requestType .save) (.bare (if success then .ok else .storeFault))) false
  ({ t with lnk := { t.lnk with serving := none } }).serveWaiting.kick

/-- The SAVE being served hears of the completion of a write: its own is answered, and a pending one is now in flight. -/
def State.reportWrite (s : State) (success : Bool) : State :=
  match s.lnk.serving with
  | none => s
  | some .inFlight => s.answerSave success
  | some .pending => { s with lnk := { s.lnk with serving := some .inFlight } }

/-- The write in flight completes (R178). That STORE_FAULT comes before the waiting request is served, a FETCH too, is the model's
choice (assumption 11). -/
def State.completeWrite (s : State) (w : StoreWrite) (success : Bool) : State :=
  let t := { s with sst := s.sst.completed w success s.contents s.now }
  (if success then t else t.raise storeFaultAlert).reportWrite success

end Sys2Proof.Machine
end

