-- ==== Sys2Proof/Machine/Events.lean ====
section
/-! DEFINITION. The meanings of the commands that are events: supply, pulses, deadlines, conversions, clocks, timers, the key, the
serial line and the store. An event whose instant the state fixes happens at that instant; one whose condition does not hold
leaves the part as it is (assumption 6). -/

namespace Sys2Proof.Machine

/-! ### Supply and start-up (R177, R180, R181) -/

/-- POWER_ON (R180). -/
def execPowerOn (s : State) : Host.Outcome State Fault Refusal := .next s.powerOn

/-- STARTUP_END (R180). -/
def execStartupEnd (tick : Tick) (s : State) : Host.Outcome State Fault Refusal :=
  match s.phase with
  | .startup => .next (s.advance tick).endStartup
  | .off | .running => .next s

/-- RESET_BEGIN (R181). -/
def execResetBegin (tick : Tick) (s : State) : Host.Outcome State Fault Refusal :=
  if s.phase = .running ∧ s.resetReady then .next (s.advance tick).startUp else .next s

/-- POWER_LOSS (R177). -/
def execPowerLoss (_tick : Tick) (s : State) : Host.Outcome State Fault Refusal :=
  match s.phase with
  | .off => .next s
  | .startup | .running => .next s.unpowered

/-! ### Tracking (chapter 1) -/

/-- A pulse input takes a level; only a running part watches it (R3, R180). -/
def State.pulse (ch : Channel) (high : Bool) (tick : Tick) (s : State) : State :=
  match s.phase with
  | .off => s.setTrack ch { s.track ch with line := high }
  | .startup => (s.advance tick).setTrack ch { s.track ch with line := high }
  | .running => (s.advance tick).setTrack ch ((s.track ch).lineChanged high (s.advance tick).now)

/-- PULSE_TRANSITION (R3). -/
def execPulseTransition (ch : Channel) (high : Bool) (tick : Tick) (s : State) : Host.Outcome State Fault Refusal :=
  .next (s.pulse ch high tick)

/-- The filter confirms the transition it holds. -/
def State.confirmHeld (ch : Channel) (s : State) : State :=
  match (s.track ch).transition with
  | some x => s.confirmEdge ch x
  | none => s

/-- COUNTED_EDGE (R3). -/
def execCountedEdge (ch : Channel) (s : State) : Host.Outcome State Fault Refusal :=
  .next (s.atDue ((s.track ch).transition.map fun x => x.seenAt + x.filter) (State.confirmHeld ch))

/-- The deadline of a channel in a lock state (R9, R10). -/
def Track.deadlineIn (t : Track) (lock : LockState) : Option Tick := if t.lock = lock then t.deadline else none

/-- VIRTUAL_EDGE (R9). -/
def execVirtualEdge (ch : Channel) (s : State) : Host.Outcome State Fault Refusal :=
  .next (s.atDue ((s.track ch).deadlineIn .locked) fun t => t.virtualEdge ch)

/-- HOLDOVER_DEADLINE (R10). -/
def execHoldoverDeadline (ch : Channel) (s : State) : Host.Outcome State Fault Refusal :=
  .next (s.atDue ((s.track ch).deadlineIn .holdover) fun t => t.stall ch)

/-- The next strobe of a channel, when one is left. -/
def State.fireNext (ch : Channel) (s : State) : State :=
  match (s.track ch).strobes with
  | some r => s.fireStrobe ch r
  | none => s

/-- STROBE (R29). -/
def execStrobe (ch : Channel) (s : State) : Host.Outcome State Fault Refusal :=
  .next (s.atDue ((s.track ch).strobes.bind StrobeRun.due) (State.fireNext ch))

/-! ### Acquisition and evaluation (chapters 2, 4 and 6) -/

/-- The conversion in progress completes with a code. -/
def State.completeRunning (code : Code) (s : State) : State :=
  match s.acq.converter with
  | some c => s.completeConversion c code
  | none => s

/-- CONVERSION_COMPLETE (R31). -/
def execConversionComplete (code : Code) (s : State) : Host.Outcome State Fault Refusal :=
  .next (s.atDue (s.acq.converter.map fun c => c.began + conversionTicks) (State.completeRunning code))

/-- The computation in progress for an input ends. -/
def State.endRunning (va : Fin 6) (s : State) : State :=
  match (s.ind.get va).computing with
  | some c => s.endComputation va c
  | none => s

/-- INDICATOR_COMPUTATION_END (R101). -/
def execIndicatorComputationEnd (va : Fin 6) (tick : Tick) (s : State) : Host.Outcome State Fault Refusal :=
  .next (s.whileRunning tick (State.endRunning va))

/-- POWER_FRESHNESS_EXPIRY (R71). -/
def execPowerFreshnessExpiry (s : State) : Host.Outcome State Fault Refusal :=
  .next (s.atDue (s.gra.power.map fun k => k.since + powerFreshTicks) State.powerUnknown)

/-! ### The clock and the icing timers (R173, chapter 7) -/

/-- DEVICE_SECOND (R173). -/
def execDeviceSecond (s : State) : Host.Outcome State Fault Refusal := .next s.tickSecond

/-- The instant at which a fresh ambient record becomes stale (R110). -/
def Icm.staleAt (m : Icm) : Option Tick :=
  match m.ambient with
  | some a => if a.fresh then some (a.receivedAt + ambientFreshSeconds * ticksPerSecond) else none
  | none => none

/-- The ambient record becomes stale. -/
def State.expireAmbient (s : State) : State :=
  match s.icm.ambient with
  | some a => s.ambientExpired a
  | none => s

/-- AMBIENT_STALE (R110). -/
def execAmbientStale (s : State) : Host.Outcome State Fault Refusal := .next (s.atDue s.icm.staleAt State.expireAmbient)

/-- ICE_EVALUATION (R114). -/
def execIceEvaluation (s : State) : Host.Outcome State Fault Refusal :=
  .next (s.atDue s.icm.nextEval fun t => t.evaluateIcing (s.icm.nextEval.getD 0))

/-- The instant of T_confirm's expiry in SUSPECT (R121). -/
def Icm.confirmAt (m : Icm) : Option Tick := if m.state = .suspect then m.tConfirm else none

/-- T_CONFIRM_EXPIRY (R121). -/
def execTConfirmExpiry (s : State) : Host.Outcome State Fault Refusal := .next (s.atDue s.icm.confirmAt State.confirmExpired)

/-- The instant of T_thaw's expiry in THAW (R125). -/
def Icm.thawAt (m : Icm) : Option Tick := if m.state = .thaw then m.tThaw.expiry else none

/-- T_THAW_EXPIRY (R125). -/
def execTThawExpiry (s : State) : Host.Outcome State Fault Refusal := .next (s.atDue s.icm.thawAt State.thawExpired)

/-! ### The key (§8.4) -/

/-- KEY takes a level, and a running part judges it (R144, R150). -/
def State.key (s : State) (tick : Tick) (low : Bool) (judge : Skd → Tick → Skd) : State :=
  match s.phase with
  | .off => { s with skd := s.skd.unwatched low }
  | .startup => { s.advance tick with skd := s.skd.unwatched low }
  | .running => { s.advance tick with skd := judge s.skd (s.advance tick).now }

/-- KEY_FALL (R144). -/
def execKeyFall (tick : Tick) (s : State) : Host.Outcome State Fault Refusal := .next (s.key tick true Skd.fallen)

/-- KEY_RISE (R144). -/
def execKeyRise (tick : Tick) (s : State) : Host.Outcome State Fault Refusal := .next (s.key tick false Skd.risen)

/-- KEY_LONG_LOW (R144). -/
def execKeyLongLow (s : State) : Host.Outcome State Fault Refusal :=
  .next (s.atDue s.skd.longLowAt fun t => { t with skd := t.skd.aborted })

/-- TRAIN_END (R145). -/
def execTrainEnd (s : State) : Host.Outcome State Fault Refusal :=
  .next (s.atDue s.skd.trainEndsAt fun t => t.endTrain (s.skd.train.getD 0))

/-- HOLD_EXPIRY (R147). -/
def execHoldExpiry (s : State) : Host.Outcome State Fault Refusal := .next (s.atDue s.skd.hold State.expireHold)

/-! ### The line and the store (chapters 10 and 11) -/

/-- SERIAL_BYTE (R167). -/
def execSerialByte (a : Arrival) (tick : Tick) (s : State) : Host.Outcome State Fault Refusal :=
  match s.phase with
  | .off => .next s
  | .startup => .next ((s.advance tick).receiveInStartup a)
  | .running => .next ((s.advance tick).receive a)

/-- FRAME_TIMEOUT (R167). -/
def execFrameTimeout (s : State) : Host.Outcome State Fault Refusal :=
  .next (s.atDue s.lnk.receiver.timeoutAt fun t => t.setReceiver .hunting)

/-- REPLY_SENT (R169). -/
def execReplySent (tick : Tick) (s : State) : Host.Outcome State Fault Refusal :=
  .next (s.whileRunning tick State.replySent)

/-- The write in flight, when there is one, completes. -/
def State.completeInFlight (success : Bool) (s : State) : State :=
  match s.sst.inFlight with
  | some w => s.completeWrite w success
  | none => s

/-- STORE_WRITE_COMPLETE (R178). -/
def execStoreWriteComplete (success : Bool) (tick : Tick) (s : State) : Host.Outcome State Fault Refusal :=
  .next (s.whileRunning tick (State.completeInFlight success))

/-- LINE_RETURNED_HIGH (R165). -/
def execLineReturnedHigh (tick : Tick) (s : State) : Host.Outcome State Fault Refusal :=
  match s.phase with
  | .off => .next s
  | .startup | .running => .next { s.advance tick with lnk := { s.lnk with lineLow := false } }

end Sys2Proof.Machine
end

