-- ==== Sys2Proof/Machine/Requests.lean ====
section
/-! DEFINITION. The meanings of the commands that are requests. Each row stands for its frame being complete at its tick
(assumption 8), whatever the way it came: the request takes its place in the reply order and is served, made to wait, or answered
BUSY (R169), and what serving it does is its owner's rule. -/

namespace Sys2Proof.Machine

/-- HELLO (R171). -/
def execHello (tick : Tick) (s : State) : Host.Outcome State Fault Refusal :=
  .next (s.whileRunning tick (State.submit .hello))

/-- STATUS (R172). -/
def execStatus (tick : Tick) (s : State) : Host.Outcome State Fault Refusal :=
  .next (s.whileRunning tick (State.submit .status))

/-- TIME (R174). -/
def execTime (farm : Nat) (tick : Tick) (s : State) : Host.Outcome State Fault Refusal :=
  .next (s.whileRunning tick (State.submit (.time farm)))

/-- SET_TRACK (R2). -/
def execSetTrack (f : TrackFields) (tick : Tick) (s : State) : Host.Outcome State Fault Refusal :=
  .next (s.whileRunning tick (State.submit (.setTrack f)))

/-- READ_TRACK (R21). -/
def execReadTrack (channel : Nat) (tick : Tick) (s : State) : Host.Outcome State Fault Refusal :=
  .next (s.whileRunning tick (State.submit (.readTrack channel)))

/-- SET_SCAN (R28). -/
def execSetScan (f : ScanFields) (tick : Tick) (s : State) : Host.Outcome State Fault Refusal :=
  .next (s.whileRunning tick (State.submit (.setScan f)))

/-- SET_INPUT (R54). -/
def execSetInput (f : InputFields) (tick : Tick) (s : State) : Host.Outcome State Fault Refusal :=
  .next (s.whileRunning tick (State.submit (.setInput f)))

/-- CLEAR_AVERAGE (R55). -/
def execClearAverage (input : Nat) (resetLevels : Bool) (tick : Tick) (s : State) : Host.Outcome State Fault Refusal :=
  .next (s.whileRunning tick (State.submit (.clearAverage input resetLevels)))

/-- READ_TSA (R56). -/
def execReadTsa (input : Nat) (start : Nat) (count : Nat) (tick : Tick) (s : State) : Host.Outcome State Fault Refusal :=
  .next (s.whileRunning tick (State.submit (.readTsa input start count)))

/-- READ_INDICATORS (R106). -/
def execReadIndicators (input : Nat) (tick : Tick) (s : State) : Host.Outcome State Fault Refusal :=
  .next (s.whileRunning tick (State.submit (.readIndicators input)))

/-- SET_GRID (R72). -/
def execSetGrid (f : GridFields) (tick : Tick) (s : State) : Host.Outcome State Fault Refusal :=
  .next (s.whileRunning tick (State.submit (.setGrid f)))

/-- READ_GRID (R73). -/
def execReadGrid (input : Nat) (tick : Tick) (s : State) : Host.Outcome State Fault Refusal :=
  .next (s.whileRunning tick (State.submit (.readGrid input)))

/-- SET_REGIME (R84). -/
def execSetRegime (f : RegimeFields) (tick : Tick) (s : State) : Host.Outcome State Fault Refusal :=
  .next (s.whileRunning tick (State.submit (.setRegime f)))

/-- SET_PROFILE (R85). -/
def execSetProfile (f : ProfileFields) (tick : Tick) (s : State) : Host.Outcome State Fault Refusal :=
  .next (s.whileRunning tick (State.submit (.setProfile f)))

/-- READ_REGIME (R86). -/
def execReadRegime (row : Option RowSelection) (tick : Tick) (s : State) : Host.Outcome State Fault Refusal :=
  .next (s.whileRunning tick (State.submit (.readRegime row)))

/-- AMBIENT (R109). -/
def execAmbient (f : AmbientFields) (tick : Tick) (s : State) : Host.Outcome State Fault Refusal :=
  .next (s.whileRunning tick (State.submit (.ambient f)))

/-- SET_ICE (R111). -/
def execSetIce (f : IceFields) (tick : Tick) (s : State) : Host.Outcome State Fault Refusal :=
  .next (s.whileRunning tick (State.submit (.setIce f)))

/-- SET_CURVE (R112). -/
def execSetCurve (points : List CurvePoint) (tick : Tick) (s : State) : Host.Outcome State Fault Refusal :=
  .next (s.whileRunning tick (State.submit (.setCurve points)))

/-- READ_ICE (R131). -/
def execReadIce (tick : Tick) (s : State) : Host.Outcome State Fault Refusal :=
  .next (s.whileRunning tick (State.submit .readIce))

/-- ICE_RELEASE (R127). -/
def execIceRelease (tick : Tick) (s : State) : Host.Outcome State Fault Refusal :=
  .next (s.whileRunning tick (State.submit .iceRelease))

/-- SET_ITEM (R139). -/
def execSetItem (f : ItemFields) (tick : Tick) (s : State) : Host.Outcome State Fault Refusal :=
  .next (s.whileRunning tick (State.submit (.setItem f)))

/-- SERVICE_DONE (R140). -/
def execServiceDone (slot : Nat) (tick : Tick) (s : State) : Host.Outcome State Fault Refusal :=
  .next (s.whileRunning tick (State.submit (.serviceDone slot)))

/-- READ_ITEMS (R142). -/
def execReadItems (first : Nat) (count : Nat) (tick : Tick) (s : State) : Host.Outcome State Fault Refusal :=
  .next (s.whileRunning tick (State.submit (.readItems first count)))

/-- FETCH (R158). -/
def execFetch (tick : Tick) (s : State) : Host.Outcome State Fault Refusal :=
  .next (s.whileRunning tick (State.submit .fetch))

/-- SNAP_READ (R162). -/
def execSnapRead (offset : Nat) (count : Nat) (tick : Tick) (s : State) : Host.Outcome State Fault Refusal :=
  .next (s.whileRunning tick (State.submit (.snapRead offset count)))

/-- SNAP_POP (R163). -/
def execSnapPop (number : Nat) (tick : Tick) (s : State) : Host.Outcome State Fault Refusal :=
  .next (s.whileRunning tick (State.submit (.snapPop number)))

/-- SAVE (R179). -/
def execSave (tick : Tick) (s : State) : Host.Outcome State Fault Refusal :=
  .next (s.whileRunning tick (State.submit .save))

/-- RESET (R181). -/
def execReset (tick : Tick) (s : State) : Host.Outcome State Fault Refusal :=
  .next (s.whileRunning tick (State.submit .reset))

end Sys2Proof.Machine
end

