-- ==== Sys2Proof/Machine/Dispatch.lean ====
section
/-! DEFINITION. The command's effect on everything but the queue: one arm for each row of spec/opcode_table.json. -/

namespace Sys2Proof.Machine

def exec (i : Instr) (s : State) : Host.Outcome State Fault Refusal :=
  match i with
  | .powerOn => Sys2Proof.Machine.execPowerOn s
  | .startupEnd tick => Sys2Proof.Machine.execStartupEnd tick s
  | .resetBegin tick => Sys2Proof.Machine.execResetBegin tick s
  | .pulseTransition ch high tick => Sys2Proof.Machine.execPulseTransition ch high tick s
  | .countedEdge ch => Sys2Proof.Machine.execCountedEdge ch s
  | .virtualEdge ch => Sys2Proof.Machine.execVirtualEdge ch s
  | .holdoverDeadline ch => Sys2Proof.Machine.execHoldoverDeadline ch s
  | .strobe ch => Sys2Proof.Machine.execStrobe ch s
  | .conversionComplete code => Sys2Proof.Machine.execConversionComplete code s
  | .indicatorComputationEnd va tick => Sys2Proof.Machine.execIndicatorComputationEnd va tick s
  | .powerFreshnessExpiry => Sys2Proof.Machine.execPowerFreshnessExpiry s
  | .deviceSecond => Sys2Proof.Machine.execDeviceSecond s
  | .ambientStale => Sys2Proof.Machine.execAmbientStale s
  | .iceEvaluation => Sys2Proof.Machine.execIceEvaluation s
  | .tConfirmExpiry => Sys2Proof.Machine.execTConfirmExpiry s
  | .tThawExpiry => Sys2Proof.Machine.execTThawExpiry s
  | .keyFall tick => Sys2Proof.Machine.execKeyFall tick s
  | .keyRise tick => Sys2Proof.Machine.execKeyRise tick s
  | .keyLongLow => Sys2Proof.Machine.execKeyLongLow s
  | .trainEnd => Sys2Proof.Machine.execTrainEnd s
  | .holdExpiry => Sys2Proof.Machine.execHoldExpiry s
  | .serialByte arrival tick => Sys2Proof.Machine.execSerialByte arrival tick s
  | .frameTimeout => Sys2Proof.Machine.execFrameTimeout s
  | .replySent tick => Sys2Proof.Machine.execReplySent tick s
  | .storeWriteComplete success tick => Sys2Proof.Machine.execStoreWriteComplete success tick s
  | .hello tick => Sys2Proof.Machine.execHello tick s
  | .status tick => Sys2Proof.Machine.execStatus tick s
  | .time farm tick => Sys2Proof.Machine.execTime farm tick s
  | .setTrack f tick => Sys2Proof.Machine.execSetTrack f tick s
  | .readTrack channel tick => Sys2Proof.Machine.execReadTrack channel tick s
  | .setScan f tick => Sys2Proof.Machine.execSetScan f tick s
  | .setInput f tick => Sys2Proof.Machine.execSetInput f tick s
  | .clearAverage input resetLevels tick => Sys2Proof.Machine.execClearAverage input resetLevels tick s
  | .readTsa input start count tick => Sys2Proof.Machine.execReadTsa input start count tick s
  | .readIndicators input tick => Sys2Proof.Machine.execReadIndicators input tick s
  | .setGrid f tick => Sys2Proof.Machine.execSetGrid f tick s
  | .readGrid input tick => Sys2Proof.Machine.execReadGrid input tick s
  | .setRegime f tick => Sys2Proof.Machine.execSetRegime f tick s
  | .setProfile f tick => Sys2Proof.Machine.execSetProfile f tick s
  | .readRegime row tick => Sys2Proof.Machine.execReadRegime row tick s
  | .ambient f tick => Sys2Proof.Machine.execAmbient f tick s
  | .setIce f tick => Sys2Proof.Machine.execSetIce f tick s
  | .setCurve points tick => Sys2Proof.Machine.execSetCurve points tick s
  | .readIce tick => Sys2Proof.Machine.execReadIce tick s
  | .iceRelease tick => Sys2Proof.Machine.execIceRelease tick s
  | .setItem f tick => Sys2Proof.Machine.execSetItem f tick s
  | .serviceDone slot tick => Sys2Proof.Machine.execServiceDone slot tick s
  | .readItems first count tick => Sys2Proof.Machine.execReadItems first count tick s
  | .fetch tick => Sys2Proof.Machine.execFetch tick s
  | .snapRead offset count tick => Sys2Proof.Machine.execSnapRead offset count tick s
  | .snapPop number tick => Sys2Proof.Machine.execSnapPop number tick s
  | .save tick => Sys2Proof.Machine.execSave tick s
  | .reset tick => Sys2Proof.Machine.execReset tick s
  | .powerLoss tick => Sys2Proof.Machine.execPowerLoss tick s
  | .lineReturnedHigh tick => Sys2Proof.Machine.execLineReturnedHigh tick s

end Sys2Proof.Machine
end

