-- ==== Sys2Proof/WellFormed.lean ====
section
/-! DEFINITION. Which commands can be sent: every field of a request fits the width the line gives it (R166, R176). Whether a
value is in the range of its rule is no matter of form: the part judges it when the request is served (R168). -/

namespace Sys2Proof

/-- A whole number that `width` bytes hold. -/
def fits (width v : Nat) : Bool := v < 256 ^ width

/-- A signed number that two bytes hold. -/
def fitsSigned (v : Int) : Bool := -32768 ≤ v ∧ v ≤ 32767

def TrackFields.wellFormed (f : TrackFields) : Bool :=
  fits 1 f.channel && fits 1 f.z && fits 2 f.n && fits 4 f.tmin && fits 4 f.tmax && fits 2 f.filter

def ScanFields.wellFormed (f : ScanFields) : Bool :=
  f.entries.list.all (fun e => fits 1 e.input) && fits 1 f.startTl && fits 1 f.startTh && fits 1 f.startTg

def InputFields.wellFormed (f : InputFields) : Bool := fits 1 f.input && fits 1 f.k && f.orders.list.all (fits 1)

def GridFields.wellFormed (f : GridFields) : Bool :=
  f.limits.list.all (fits 2) && fits 2 f.voltageThd && fits 2 f.currentThd && fits 2 f.kp

def RegimeFields.wellFormed (f : RegimeFields) : Bool := f.breakpoints.list.all (fits 2) && f.map.list.all (fits 1)

def ProfileFields.wellFormed (f : ProfileFields) : Bool :=
  fits 1 f.profile && fits 1 f.input && f.levels.list.all (fun p => fits 2 p.warn && fits 2 p.alarm) && fits 1 f.persistence

def AmbientFields.wellFormed (f : AmbientFields) : Bool :=
  fitsSigned f.temperature && fitsSigned f.humidity && fitsSigned f.wind

def IceFields.wellFormed (f : IceFields) : Bool :=
  fitsSigned f.tice && fits 1 f.hice && fits 2 f.powerMargin && fits 2 f.imbalanceMargin && fits 2 f.period && fits 2 f.tConfirm
    && fits 2 f.tThaw && fits 1 f.iceInput

/-- The point count fits one byte and the frame its payload of 1 + 4 × count bytes (R166, R168). -/
def curveWellFormed (points : List CurvePoint) : Bool :=
  1 + 4 * points.length ≤ 250 && points.all fun p => fits 2 p.wind && fits 2 p.power

def ItemFields.wellFormed (f : ItemFields) : Bool :=
  fits 1 f.slot && fits 2 f.tag && fits 1 f.basis && fits 1 f.source && fits 4 f.interval && fits 4 f.lead

/-- A request that the line can carry. A malformed one is made by the receiver, not sent as a row. -/
def Request.wellFormed : Request → Bool
  | .hello | .status | .readIce | .iceRelease | .fetch | .save | .reset => true
  | .time farm => fits 4 farm
  | .setTrack f => f.wellFormed
  | .readTrack channel => fits 1 channel
  | .setScan f => f.wellFormed
  | .setInput f => f.wellFormed
  | .clearAverage input _ => fits 1 input
  | .readTsa input start count => fits 1 input && fits 1 start && fits 1 count
  | .readIndicators input => fits 1 input
  | .setGrid f => f.wellFormed
  | .readGrid input => fits 1 input
  | .setRegime f => f.wellFormed
  | .setProfile f => f.wellFormed
  | .readRegime none => true
  | .readRegime (some r) => fits 1 r.profile && fits 1 r.input
  | .ambient f => f.wellFormed
  | .setIce f => f.wellFormed
  | .setCurve points => curveWellFormed points
  | .setItem f => f.wellFormed
  | .serviceDone slot => fits 1 slot
  | .readItems first count => fits 1 first && fits 1 count
  | .snapRead offset count => fits 2 offset && fits 1 count
  | .snapPop number => fits 4 number
  | .malformed _ => false

/-- The request of a request row; an event has none. -/
def Instr.request : Instr → Option Request
  | .powerOn | .startupEnd _ | .resetBegin _ | .pulseTransition _ _ _ | .countedEdge _ | .virtualEdge _ | .holdoverDeadline _
  | .strobe _ | .conversionComplete _ | .indicatorComputationEnd _ _ | .powerFreshnessExpiry | .deviceSecond | .ambientStale
  | .iceEvaluation | .tConfirmExpiry | .tThawExpiry | .keyFall _ | .keyRise _ | .keyLongLow | .trainEnd | .holdExpiry
  | .serialByte _ _ | .frameTimeout | .replySent _ | .storeWriteComplete _ _ | .powerLoss _ | .lineReturnedHigh _ => none
  | .hello _ => some .hello
  | .status _ => some .status
  | .time farm _ => some (.time farm)
  | .setTrack f _ => some (.setTrack f)
  | .readTrack channel _ => some (.readTrack channel)
  | .setScan f _ => some (.setScan f)
  | .setInput f _ => some (.setInput f)
  | .clearAverage input resetLevels _ => some (.clearAverage input resetLevels)
  | .readTsa input start count _ => some (.readTsa input start count)
  | .readIndicators input _ => some (.readIndicators input)
  | .setGrid f _ => some (.setGrid f)
  | .readGrid input _ => some (.readGrid input)
  | .setRegime f _ => some (.setRegime f)
  | .setProfile f _ => some (.setProfile f)
  | .readRegime row _ => some (.readRegime row)
  | .ambient f _ => some (.ambient f)
  | .setIce f _ => some (.setIce f)
  | .setCurve points _ => some (.setCurve points)
  | .readIce _ => some .readIce
  | .iceRelease _ => some .iceRelease
  | .setItem f _ => some (.setItem f)
  | .serviceDone slot _ => some (.serviceDone slot)
  | .readItems first count _ => some (.readItems first count)
  | .fetch _ => some .fetch
  | .snapRead offset count _ => some (.snapRead offset count)
  | .snapPop number _ => some (.snapPop number)
  | .save _ => some .save
  | .reset _ => some .reset

/-- A command that can be sent: an event always, a request when its fields fit the line. -/
def Instr.wellFormed (i : Instr) : Bool :=
  match i.request with
  | some r => r.wellFormed
  | none => true

end Sys2Proof
end

