-- ==== Sys2Proof/Safety.lean ====
section
/-! DEFINITION. The laws of the device and the well-formedness of its state, in the terms the claims use. Each law holds at
`State.reset` and is meant to be kept by every step. -/

namespace Sys2Proof.Machine

/-! ### Alerts and snapshots (R153, R160) -/

/-- At most 32 records, no two of one identity, and ATTN exactly while the list is non-empty outside start-up (R153, R157).
Without supply the line is free. -/
def AlertLaw (s : State) : Prop :=
  s.alt.records.length ≤ 32 ∧ s.alt.records.Pairwise (fun r q => r.same q = false)
    ∧ (s.phase ≠ .off → s.alt.attn = decide (s.phase = .running ∧ s.alt.records ≠ []))

/-- At most 6 snapshots, their numbers rising strictly from bottom to top, each given before the next number (R160, R161). -/
def SnapshotLaw (s : State) : Prop :=
  s.sns.stack.length ≤ 6 ∧ s.sns.stack.Pairwise (fun p q => p.number < q.number)
    ∧ ∀ p ∈ s.sns.stack, p.number < s.sns.nextNumber ∧ p.number ≤ max32

/-! ### Regimes (R77, R81) -/

/-- PARKED exactly while TL does not follow pulses, then without a candidate; no candidate while power is unknown; and the active
profile is the map's entry for the regime (R77, R78, R81). -/
def RegimeLaw (s : State) : Prop :=
  (s.trk.tl.lock.following = false ↔ s.rgc.regime = 0) ∧ (s.trk.tl.lock.following = false → s.rgc.candidate = none)
    ∧ (s.gra.power = none → s.rgc.candidate = none) ∧ s.rgc.active = s.rgc.settings.map.get s.rgc.regime

/-! ### Icing (R118, R126) -/

/-- The timers a state may have (R118); a restored THAW waits for the end of start-up (R130). -/
def Icm.timersFit (m : Icm) (phase : Phase) : Bool :=
  match m.state with
  | .clear | .watch | .iced => m.tConfirm.isNone && m.tThaw == .stopped
  | .suspect => m.tConfirm.isSome && m.tThaw == .stopped
  | .thaw => m.tConfirm.isNone && (m.tThaw != .stopped || phase != .running)

/-- ICESTOP is asserted exactly in ICED and THAW, the timers fit the state, the evidence counts are below their limits, and the
run kind is absent exactly when e2 is 0 (R118 to R120, R126). Without supply the line is free. -/
def IcingLaw (s : State) : Prop :=
  (s.phase ≠ .off → s.icm.icestop = s.icm.state.stops) ∧ s.icm.timersFit s.phase = true ∧ s.icm.e1 < 3 ∧ s.icm.e2 < 3
    ∧ (s.icm.runKind = none ↔ s.icm.e2 = 0)

/-! ### The service mode (R145 to R147) -/

/-- The hold timer runs exactly in SERVICE and TEST; counts of pulses lie in their ranges (R145, R147). -/
def ServiceLaw (s : State) : Prop :=
  (s.skd.hold = none ↔ s.skd.mode = .normal) ∧ (∀ n, s.skd.train = some n → 1 ≤ n ∧ n ≤ 255) ∧ s.skd.lastTrain ≤ 255
    ∧ (s.phase ≠ .running → s.skd.mode = .normal)

/-! ### Tracking (§1.3, R20) -/

/-- A channel has a revolution, strobes, a deadline and staged settings only while it follows pulses; then it has a measure of
speed and its pulse index lies below Z; an OFF channel holds nothing; and four consistent intervals end ACQUIRING (§1.3, R5, R6,
R20). -/
def TrackLaw (t : Track) : Prop :=
  (t.lock.following = false → t.rev = none ∧ t.strobes = none ∧ t.deadlineFrom = none ∧ t.staged = none)
    ∧ (t.lock.following = true → t.tprev.isSome ∧ t.deadlineFrom.isSome ∧ t.p < t.settings.z)
    ∧ (t.lock = .off → t.c = 0 ∧ t.tprev = none ∧ t.ref = none ∧ t.transition = none)
    ∧ (t.lock = .stalled → t.ref = none) ∧ (t.lock = .acquiring → t.c ≤ 3) ∧ t.c ≤ 4 ∧ t.closedCount ≤ max32 ∧ t.stallCount ≤ max16

/-- The law of all three channels. -/
def TrackingLaw (s : State) : Prop := ∀ ch, TrackLaw (s.track ch)

/-! ### Gathering (R34, R39, R46, R58) -/

/-- The slots a buffer holds rise strictly (R34). -/
def RisingSlots (b : Option RevBuffer) : Prop := ∀ x, b = some x → x.slots.Pairwise fun p q => p.slot < q.slot

/-- Revolutions and records are cut into 64, 128 or 256 slots, a record has 256 accumulators, samples join their buffers in rising
slot order, and no input stands twice in a scan (R1, R27, R34, R39, R46, R58). -/
def GatheringLaw (s : State) : Prop :=
  (∀ ch rev, (s.track ch).rev = some rev → rev.samples ∈ [64, 128, 256])
    ∧ (∀ ch sc, s.acq.scans.get ch = some sc → sc.entries.Nodup)
    ∧ (∀ va,
        let v := s.sav.get va
        RisingSlots v.buffer ∧ v.acc.length = 256 ∧ v.samples ∈ [64, 128, 256])
    ∧ ∀ g, RisingSlots (s.gra.inputs.get g).buffer

/-! ### Items (R132) -/

/-- The source is of the kind the basis requires (R133). -/
def sourceFits : Basis → ItemSource → Bool
  | .damage, .va _ => true
  | .revolutions, .channel ch => ch ≠ .tg
  | .damage, _ | .revolutions, _ => false
  | _, s => s = .none

/-- An item is UNUSED with the values of R132, or in use with every field in its range. -/
def Item.Valid (it : Item) : Prop :=
  if it.basis = .none then it = Item.unused
  else
    it.state ≠ .unused ∧ sourceFits it.basis it.source = true ∧ it.tag ≤ max16 ∧ 1 ≤ it.interval ∧ it.interval ≤ 1000000
      ∧ it.lead ≤ 1000000 ∧ it.accrued ≤ max32 ∧ it.doneCount ≤ max16 ∧ (it.basis ≠ .calendar → it.calendarStart = none)

/-- While farm time is synced a CALENDAR item has a start and counts from it (R137). -/
def Item.CountsFrom (farm : Option Nat) (it : Item) : Prop :=
  ∀ f, farm = some f → it.basis = .calendar → ∃ start, it.calendarStart = some start ∧ it.accrued = f - start

/-- A stored image that a start-up could load is one whose items are valid (R143). -/
def Image.ItemsValid (image : Image) : Prop := ∀ slot, (image.items.get slot).loaded.Valid

/-- The images the store holds or is writing. -/
def Sst.Holds (t : Sst) (P : Image → Prop) : Prop :=
  (∀ image, t.image = .valid image → P image) ∧ ∀ w, t.inFlight = some w → P w.copy

/-- Every item is valid and counts from its start, farm time is a 32-bit count and unsynced until start-up has ended, and the stored
items are valid (R132, R137, R173). -/
def ItemLaw (s : State) : Prop :=
  (∀ slot, (s.msc.get slot).Valid ∧ (s.msc.get slot).CountsFrom s.clk.farm) ∧ (∀ f, s.clk.farm = some f → f ≤ max32)
    ∧ (s.phase ≠ .running → s.clk.farm = none) ∧ s.sst.Holds Image.ItemsValid

/-! ### Settings (R1, R2, R24, R26, R27, R54, R72, R82, R84, R85, R111, R112) -/

/-- The values R1 and R2 allow a channel's settings. Values that no frame can carry are not among them (assumption 13). -/
abbrev TrackSettings.InRange (t : TrackSettings) (ch : Channel) : Prop :=
  t.z ∈ [1, 2, 4, 8, 16, 32, 64] ∧ t.n ∈ [64, 128, 256] ∧ 1 ≤ t.tmin ∧ t.tmin < t.tmax ∧ t.tmax ≤ 4294967295 ∧ t.filter ≤ 65535
    ∧ (ch = .tg → t.z = 1 ∧ t.n = 64 ∧ t.tmin = 30770 ∧ t.tmax = 44444)

/-- `l` is the channel's scan list, and a well-formed one: without a start pointer it is empty; else it takes the entries from the
start on, 1 to 8 of them, of which only the last has its stop mark set, none empty and each of the channel's kind (R24, R26). -/
abbrev ScanTable.Lists (t : ScanTable) (ch : Channel) (l : List Input) : Prop :=
  (t.starts.get ch = none → l = [])
    ∧ (∀ start ∈ t.starts.get ch,
        1 ≤ l.length ∧ l.length ≤ 8
          ∧ ∀ k < l.length,
              (t.entries.list[start.val + k]?).map ScanEntry.input = some l[k]?
                ∧ (t.entries.list[start.val + k]?).map ScanEntry.stop = some (decide (k + 1 = l.length)))
    ∧ ∀ i ∈ l, ch = .tg ↔ ∀ va, i ≠ .va va

/-- Every channel's scan list is well-formed, and no input stands twice in the three (R26, R27). -/
abbrev ScanTable.Valid (t : ScanTable) : Prop :=
  (∀ ch ∈ [Channel.tl, .th, .tg], t.Lists ch (t.list ch)) ∧ (t.list .tl ++ t.list .th ++ t.list .tg).Nodup

/-- k is at most 8, and the watched orders are at most 127 and, but for 0, distinct (R54). -/
abbrev InputSettings.InRange (t : InputSettings) : Prop :=
  t.k ≤ 8 ∧ (∀ i, t.orders.get i ≤ 127) ∧ ∀ i j, t.orders.get i = t.orders.get j → i = j ∨ t.orders.get i = 0

/-- No limit is above 9,999 and Kp is at most 65,535 (R72). -/
abbrev GridSettings.InRange (t : GridSettings) : Prop :=
  (∀ i, t.limits.get i ≤ 9999) ∧ t.voltageThd ≤ 9999 ∧ t.currentThd ≤ 9999 ∧ t.kp ≤ 65535

/-- P lies from 1 to 15, W and L are at most 65,535, and no pair has both non-zero with W not below L (R82, R85). -/
abbrev Row.InRange (r : Row) : Prop :=
  1 ≤ r.persistence ∧ r.persistence ≤ 15
    ∧ ∀ i,
        let p := r.levels.get i
        p.warn ≤ 65535 ∧ p.alarm ≤ 65535 ∧ (p.warn = 0 ∨ p.alarm = 0 ∨ p.warn < p.alarm)

/-- The breakpoints ascend strictly within 0 to 32,767, and every row is in range (R82, R84). -/
abbrev RegimeSettings.InRange (t : RegimeSettings) : Prop :=
  (∀ b ∈ t.breakpoints.list, b ≤ 32767) ∧ t.breakpoints.list.Pairwise (· < ·) ∧ ∀ p va, ((t.profiles.get p).get va).InRange

/-- Every icing setting lies in its values (R111). -/
abbrev IceSettings.InRange (t : IceSettings) : Prop :=
  -500 ≤ t.tice ∧ t.tice ≤ 480 ∧ t.hice ≤ 100 ∧ t.powerMargin ≤ 999 ∧ t.imbalanceMargin ≤ 9999 ∧ 10 ≤ t.period ∧ t.period ≤ 300
    ∧ 1 ≤ t.tConfirm ∧ t.tConfirm ≤ 65535 ∧ 1 ≤ t.tThaw ∧ t.tThaw ≤ 65535

/-- The curve has no point or 2 to 16, in range, their wind speeds ascending strictly (R112). -/
abbrev CurveInRange (points : List CurvePoint) : Prop :=
  points.length ≠ 1 ∧ points.length ≤ 16 ∧ (∀ p ∈ points, p.wind ≤ 600 ∧ p.power ≤ 32767)
    ∧ points.Pairwise fun p q => p.wind < q.wind

/-- Every setting of an image lies in the values its rule gives. -/
abbrev Image.InRange (image : Image) : Prop :=
  image.track.tl.InRange .tl ∧ image.track.th.InRange .th ∧ image.track.tg.InRange .tg ∧ image.scan.Valid
    ∧ (∀ va, (image.inputs.get va).InRange) ∧ image.grid.InRange ∧ image.regime.InRange ∧ image.ice.InRange
    ∧ CurveInRange image.curve

/-- The settings in force, the staged ones, and those of the images the store holds or is writing lie in the values their rules
give; and each VA input's recorded owner is the one the scan table gives (R1, R26 to R28, R54, R72, R82, R111, R112). -/
def SettingsLaw (s : State) : Prop :=
  s.contents.InRange ∧ s.sst.Holds Image.InRange ∧ (∀ ch t, (s.track ch).staged = some t → t.InRange ch)
    ∧ ∀ va, (s.sav.get va).owner = s.acq.table.owner (.va va)

/-- The table a SET_SCAN carries: each entry's input by its number, 255 for empty, its stop mark, and each start pointer, 255 for
none (R26, R166, R176). -/
abbrev ScanTable.CarriedBy (t : ScanTable) (f : ScanFields) : Prop :=
  (∀ k,
      (f.entries.get k).stop = (t.entries.get k).stop
        ∧ (f.entries.get k).input =
          match (t.entries.get k).input with
          | none => 255
          | some (.va i) => i.val
          | some (.gv p) => 6 + p.val
          | some (.gi p) => 9 + p.val)
    ∧ f.startTl = (t.starts.tl.map Fin.val).getD 255 ∧ f.startTh = (t.starts.th.map Fin.val).getD 255
    ∧ f.startTg = (t.starts.tg.map Fin.val).getD 255

/-- Every entry names one of the twelve inputs or none, and every start pointer one of the 24 entries or none (R26). -/
abbrev NumbersInRange (f : ScanFields) : Prop :=
  (∀ k, (f.entries.get k).input < 12 ∨ (f.entries.get k).input = 255) ∧ ∀ start ∈ [f.startTl, f.startTh, f.startTg],
    start < 24 ∨ start = 255

/-! ### Levels and computations (R93, R97) -/

/-- Every rise and fall counter lies below the P of the input's row in the active profile, and is at most 14; a computation waits
only behind one in progress; and the count of dropped ones is a 16-bit count (R93, R97). -/
def IndicatorLaw (s : State) : Prop :=
  ∀ va,
    let i := s.ind.get va
    let p := (s.row s.rgc.active va).persistence
    (∀ j, (i.levels.get j).rise < p ∧ (i.levels.get j).fall < p ∧ (i.levels.get j).rise ≤ 14 ∧ (i.levels.get j).fall ≤ 14)
      ∧ (i.computing = none → i.waiting = none) ∧ i.dropped ≤ 65535

/-! ### The grid analyzer (R63, R64, R68, R70) -/

/-- The runs of a limit state between blocks lie below 3 (R68). -/
abbrev LimitState.Counts (l : LimitState) : Prop := l.exceedRun ≤ 2 ∧ l.withinRun ≤ 2

/-- The energy remainder lies below one kWh and the total in its 32 bits; an open block has at most 9 accepted cycles and 25 square
sums for each input; runs lie below 3; a harmonic state has a named order, from 2 to 25, exactly in EXCEEDED, and a THD state has
none; GI inputs have no harmonic state; and results hold 25 orders and a THD of at most 9,999 (R63, R64, R68, R70). -/
def GridLaw (s : State) : Prop :=
  s.gra.remainder < 7200000000 ∧ s.gra.energy ≤ 4294967295
    ∧ (∀ b, s.gra.block = some b → b.accepted ≤ 9 ∧ b.rejected ≤ 65535 ∧ ∀ g, (b.squares.get g).length = 25)
    ∧ ∀ g,
        let i := s.gra.inputs.get g
        i.harmonic.Counts ∧ i.thd.Counts ∧ (i.harmonic.exceeded = true ↔ i.harmonic.named.isSome)
          ∧ (∀ m, i.harmonic.named = some m → 2 ≤ m ∧ m ≤ 25) ∧ i.thd.named = none
          ∧ (3 ≤ g.val → i.harmonic = ⟨false, 0, 0, none⟩)
          ∧ ∀ r, i.result = some r → r.hb.length = 25 ∧ r.thd ≤ 9999

/-! ### The link and the store (R167, R169, R178) -/

/-- The frame receiver holds no complete frame and no length above 250 (R167). -/
def Receiver.partial : Receiver → Bool
  | .hunting => true
  | .receiving [] _ => true
  | .receiving (l :: rest) _ => l.toNat ≤ 250 && rest.length < l.toNat + 3

/-- Places of the reply order that are pending. -/
def pendingPlaces (order : List Place) : Nat := (order.filter fun p => p.reply.isNone).length

/-- The SAVE being served waits for a write that is in flight or pending. -/
def Sst.serves (t : Sst) : Option SaveWaits → Bool
  | none => true
  | some .inFlight => t.inFlight.isSome
  | some .pending => t.inFlight.isSome && t.pendingWrite

/-- At most 16 places; one pending place for the request served and one for the request waiting; nothing waits unless a request is
served; the head is sent exactly when it is ready; a pending write needs one in flight; and SAVE waits for a write that will
complete (R167, R169, R178, R179). -/
def LinkLaw (s : State) : Prop :=
  s.lnk.order.length ≤ 16
    ∧ pendingPlaces s.lnk.order = bit s.lnk.serving.isSome + bit s.lnk.waiting.isSome
    ∧ (s.lnk.serving = none → s.lnk.waiting = none)
    ∧ (s.lnk.sending.isSome = (s.lnk.order.head?.any fun p => p.reply.isSome))
    ∧ (s.sst.pendingWrite = true → s.sst.inFlight.isSome) ∧ s.sst.serves s.lnk.serving = true
    ∧ s.lnk.receiver.partial = true

/-! ### Serving (R169, R170) -/

/-- A request whose frame completes now is served at once and its reply joins the end of the order: the part runs, no RESET has
been served, no request is being served, a place is free, and every place before it is ready (R169, R175). -/
def State.ServesAtOnce (s : State) : Prop :=
  s.phase = .running ∧ s.lnk.reset = .none ∧ s.lnk.serving = none ∧ s.lnk.order.length < orderCapacity
    ∧ ∀ p ∈ s.lnk.order, p.reply.isSome = true

/-- The state with a reply at the end of the reply order, the head sent if it is ready and the line is free (R169, R170). -/
def State.replied (s : State) (type : Nat) (st : Status) (fields : List Field) : State :=
  (s.addPlace ⟨some ⟨type, st, fields⟩, false⟩).kick

/-- The instant a request row carries; 0 for an event. -/
def sentAt : Instr → Tick
  | .hello t | .status t | .time _ t | .setTrack _ t | .readTrack _ t | .setScan _ t | .setInput _ t | .clearAverage _ _ t
  | .readTsa _ _ _ t | .readIndicators _ t | .setGrid _ t | .readGrid _ t | .setRegime _ t | .setProfile _ t | .readRegime _ t
  | .ambient _ t | .setIce _ t | .setCurve _ t | .readIce t | .iceRelease t | .setItem _ t | .serviceDone _ t | .readItems _ _ t
  | .fetch t | .snapRead _ _ t | .snapPop _ t | .save t | .reset t => t
  | .powerOn | .startupEnd _ | .resetBegin _ | .pulseTransition _ _ _ | .countedEdge _ | .virtualEdge _ | .holdoverDeadline _
  | .strobe _ | .conversionComplete _ | .indicatorComputationEnd _ _ | .powerFreshnessExpiry | .deviceSecond | .ambientStale
  | .iceEvaluation | .tConfirmExpiry | .tThawExpiry | .keyFall _ | .keyRise _ | .keyLongLow | .trainEnd | .holdExpiry
  | .serialByte _ _ | .frameTimeout | .replySent _ | .storeWriteComplete _ _ | .powerLoss _ | .lineReturnedHigh _ => 0

/-- The bytes of a frame received one after another at one instant. -/
def State.receiveAll (s : State) (bytes : List Byte) : State := bytes.foldl (fun t b => t.receive (.byte b)) s

/-- The request a command is about: the row's own, the one whose frame a byte completes, or the waiting one that the end of a write
lets move up (R167 to R169). -/
def State.requestIn (s : State) (c : Instr) : Option Request :=
  match c with
  | .serialByte (.byte b) _ =>
    match s.lnk.receiver with
    | .receiving (l :: rest) _ =>
      let frame := l :: rest ++ [b]
      if frame.length = l.toNat + 4 then requestOf (natAt frame 1 1) ((frame.take (l.toNat + 2)).drop 2) else none
    | .hunting | .receiving [] _ => none
  | .storeWriteComplete _ _ => s.lnk.waiting
  | c => c.request

/-! ### What an edge does to a channel that follows pulses (R8 to R10, R13 to R16) -/

/-- How an edge is taken: the state it leads to, its time, its taking time, the measure of speed after it, what it adds to the open
revolution, and the marks it leaves. -/
structure EdgeTaken where
  lock : LockState
  time : Tick
  taking : Tick
  tprev : Nat
  unsteady : Bool
  virtual : Bool
  /-- the transition left in the filter -/
  left : Option Transition

/-- The pulse index after one more edge. -/
def Track.nextIndex (t : Track) : Nat := (t.p + 1) % t.settings.z

/-- The open revolution after an edge ends one of its intervals. -/
def OpenRev.after (r : OpenRev) (e : EdgeTaken) : OpenRev :=
  { r with ticks := r.ticks + e.tprev, unsteady := r.unsteady || e.unsteady, virtual := r.virtual || e.virtual }

/-- The strobes an edge at pulse index `p` leaves to fire, its own strobe 0 already fired (R13). -/
def Track.strobesAt (t : Track) (p : Nat) (e : EdgeTaken) : StrobeRun :=
  ⟨e.taking, e.tprev, t.settings.n / t.settings.z, p * (t.settings.n / t.settings.z), 1⟩

/-- A channel after an edge inside a revolution. -/
def Track.edgeInside (t : Track) (e : EdgeTaken) : Track :=
  { t with
    lock := e.lock, p := t.nextIndex, tprev := some e.tprev, ref := some e.time, deadlineFrom := some e.taking, transition := e.left
    rev := t.rev.map fun r => r.after e
    strobes := some (t.strobesAt t.nextIndex e) }

/-- A channel after an edge that opens a revolution. -/
def Track.edgeOpening (t : Track) (ch : Channel) (e : EdgeTaken) : Track :=
  { t with
    lock := e.lock, p := 0, tprev := some e.tprev, ref := some e.time, deadlineFrom := some e.taking, transition := e.left
    rev := some ⟨⟨ch, t.nextSerial⟩, t.settings.n, false, e.virtual, 0, e.time⟩
    nextSerial := t.nextSerial + 1
    strobes := some (t.strobesAt 0 e) }

/-- A channel after an edge that closes its open revolution `r` and opens the next, with nothing staged. -/
def Track.edgeClosing (t : Track) (ch : Channel) (r : OpenRev) (e : EdgeTaken) : Track :=
  { t.edgeOpening ch e with
    closedCount := (t.closedCount + 1) % 4294967296
    lastTicks := some (r.after e).ticks }

/-- Z or N differs: the TSA records of the channel's list are cleared (R19, R20). -/
abbrev TrackSettings.recuts (old new : TrackSettings) : Prop := old.z ≠ new.z ∨ old.n ≠ new.n

/-- Settings that are applied at a close and leave the channel in its lock state (R20). -/
abbrev TrackSettings.keepsLock (old new : TrackSettings) : Prop := new.enable = true ∧ old.z = new.z ∧ old.edge = new.edge

/-- A channel after such an edge at which staged settings are applied: it goes on with the new N, or enters OFF or ACQUIRING without
the revolution just opened (R15, R20). -/
def Track.edgeApplying (t : Track) (ch : Channel) (r : OpenRev) (e : EdgeTaken) (new : TrackSettings) : Track :=
  let k := { t.edgeClosing ch r e with settings := new, staged := none }
  if t.settings.keepsLock new then
    { k with
      rev := some ⟨⟨ch, t.nextSerial⟩, new.n, false, e.virtual, 0, e.time⟩
      strobes := some ⟨e.taking, e.tprev, new.n / new.z, 0, 1⟩ }
  else
    { k with
      lock := if new.enable then .acquiring else .off, c := 0, tprev := none, ref := none, transition := none, deadlineFrom := none
      rev := none, strobes := none }

/-- A channel in OFF, ACQUIRING or STALLED after settings are applied to it at once (R5, R19). -/
def Track.settled (t : Track) (new : TrackSettings) : Track :=
  let starts := new.enable = true ∧ t.lock = .off
  let ends := new.enable = false ∧ t.lock ≠ .off
  let restarts := new.enable = true ∧ t.lock = .acquiring ∧ (t.settings.recuts new ∨ t.settings.edge ≠ new.edge)
  { t with
    settings := new, staged := none
    lock := if new.enable then (if t.lock = .off then .acquiring else t.lock) else .off
    c := if starts ∨ ends ∨ restarts then 0 else t.c
    ref := if starts ∨ ends ∨ restarts then none else t.ref
    tprev := if ends ∨ restarts then none else t.tprev
    transition := if starts ∨ ends ∨ t.settings.edge ≠ new.edge then none else t.transition
    deadlineFrom := if ends then none else t.deadlineFrom }

/-- The interval a counted edge ends. -/
def Track.intervalTo (t : Track) (x : Transition) : Nat := min 4294967295 (x.seenAt - t.ref.getD 0)

/-- The three edges a channel that follows pulses can take: a counted edge inside the window in LOCKED (R8), the deadline in LOCKED
(R9), and a counted edge in HOLDOVER (R10); with the command that brings each. An interval that differs from Tprev by more than an
eighth of it marks the revolution UNSTEADY (R8). -/
def EdgeComes (s : State) (ch : Channel) (c : Instr) (e : EdgeTaken) : Prop :=
  let t := s.track ch
  (∃ x ref, c = .countedEdge ch ∧ t.transition = some x ∧ t.lock = .locked ∧ t.ref = some ref
      ∧ t.settings.tmin ≤ t.intervalTo x ∧ t.intervalTo x ≤ t.settings.tmax ∧ t.intervalTo x < 4294967295
      ∧ e = ⟨.locked, x.seenAt, max s.now (x.seenAt + x.filter), t.intervalTo x,
          decide (∀ prev ∈ t.tprev, prev < ((t.intervalTo x : Int) - prev).natAbs * 8), false, none⟩)
    ∨ (∃ d prev, c = .virtualEdge ch ∧ t.lock = .locked ∧ t.deadlineFrom = some d ∧ t.tprev = some prev
      ∧ e = ⟨.holdover, max s.now (d + 3 * prev / 2), max s.now (d + 3 * prev / 2), prev, false, true,
          t.transition⟩)
    ∨ ∃ x prev, c = .countedEdge ch ∧ t.transition = some x ∧ t.lock = .holdover ∧ t.tprev = some prev
      ∧ e = ⟨.locked, x.seenAt, max s.now (x.seenAt + x.filter), prev, false, false, none⟩

/-! ### What items do as they count (R133 to R137) -/

/-- Native units in one display unit (R133). -/
def Basis.unit : Basis → Nat
  | .operating => 3600
  | .revolutions | .energy => 1000
  | .calendar => 86400
  | .none | .damage | .ice => 1

/-- The state of an item with this accrued count: the highest whose threshold the count satisfies (R134). -/
def Item.stateAt (it : Item) (accrued : Nat) : ItemState :=
  if it.basis = .none then .unused
  else if (it.interval + it.lead) * it.basis.unit ≤ accrued then .overdue
  else if it.interval * it.basis.unit ≤ accrued then .due
  else if (it.interval - it.lead) * it.basis.unit ≤ accrued then .dueSoon
  else .running

/-- What an item whose count becomes `accrued` reports: one alert for an upward move to DUE_SOON or above (R135). -/
def Item.report (slot : Fin 16) (it : Item) (accrued : Nat) : Option Alert :=
  let alert (v : Severity) (threshold : Nat) : Alert :=
    ⟨.itemState, v, .slot slot, none, some (accrued / it.basis.unit : Nat), some (threshold : Int), .absent⟩
  if it.state.rank < (it.stateAt accrued).rank then
    match it.stateAt accrued with
    | .unused | .running => none
    | .dueSoon => some (alert .note (it.interval - it.lead))
    | .due => some (alert .warn it.interval)
    | .overdue => some (alert .alarm (it.interval + it.lead))
  else none

/-- The state after every item for which `count` gives a number has taken it as its accrued count, its state recomputed, and the
upward moves have been reported in slot order (R134 to R137; the order is assumption 11). -/
def State.itemsCounted (s : State) (count : Item → Option Nat) : State :=
  { s with
    msc := s.msc.map fun it =>
      match count it with
      | some accrued => { it with accrued := accrued, state := it.stateAt accrued }
      | none => it
    alt := (s.raiseAll (allSlots.filterMap fun slot =>
      (count (s.msc.get slot)).bind ((s.msc.get slot).report slot))).alt }

/-- An item that an accrual concerns counts on by an amount, saturating (R136). -/
def addedTo (concerns : Item → Prop) [DecidablePred concerns] (amount : Nat) (it : Item) : Option Nat :=
  if concerns it then some (min 4294967295 (it.accrued + amount)) else none

/-- A CALENDAR item with a start counts farm time from it while farm time is synced (R137). -/
def calendarCount (farm : Option Nat) (it : Item) : Option Nat :=
  match it.basis, farm, it.calendarStart with
  | .calendar, some f, some start => some (f - start)
  | _, _, _ => none

/-! ### The arbiter (R29 to R33, R37) -/

/-- The test value that replaces the code of a conversion that begins in TEST on a VA input (R37). -/
def testOf (mode : ServiceMode) (i : Input) (slot samples : Nat) : Option Int :=
  match mode, i with
  | .test, .va _ => some (4096 * sine (4 * slot * 256 / samples % 256) / 16384)
  | _, _ => none

/-- Of the pending scans with an entry not begun, TG's before TH's before TL's, with that entry (R30). -/
def arbiterChoice (scans : PerChannel (Option Scan)) : Option (Channel × Scan × Input) :=
  [Channel.tg, .th, .tl].findSome? fun ch =>
    (scans.get ch).bind fun sc => (sc.entries[sc.position]?).map fun i => (ch, sc, i)

/-- `t` is what the arbiter leaves when it acts on a free converter with these scans pending: it begins the entry it chooses at this
instant, or the converter stays free (R30, R31, R37). `idle`: before the scans of this instant the converter was free. -/
def ArbiterActs (scans : PerChannel (Option Scan)) (idle : Bool) (t : State) : Prop :=
  match arbiterChoice scans with
  | none => t.acq.scans = scans ∧ t.acq.converter = none
  | some (ch, sc, i) =>
    t.acq.scans = scans.set ch (some { sc with position := sc.position + 1 })
      ∧ t.acq.converter = some ⟨sc.rev, sc.slot, i, t.now, testOf t.skd.mode i sc.slot sc.samples, idle⟩

/-- The converter is free, or converts an entry chosen at this very instant among scans created then (R30). -/
def freeAt (c : Option Conversion) (now : Tick) : Bool := c.all fun c => c.fromIdle && c.began == now

/-! ### What a channel's event does to the blocks that gather for it (R12, R28, R32, R41, R51, R58, R66, R77, R78) -/

/-- An averager input with its record cleared, at the N then in force on the record's owner (R51). -/
def Sav.emptied (v : Sav) (t : State) : Sav :=
  { v with n := 0, samples := (v.owner.map fun o => (t.track o).settings.n).getD v.samples }

/-- A buffer after an overrun has held the slot of scan `sc`: the held sample carries the last value of the scan's revolution, 0
before the first (R32, R35). -/
def RevBuffer.heldFor (sc : Scan) (b : RevBuffer) : RevBuffer :=
  if b.rev = sc.rev then
    { b with slots := fillSlot ⟨sc.slot, ((b.slots.getLast?).map SlotSample.value).getD 0, true, false⟩ b.slots }
  else b

/-- From `s` to `t` a strobe of `ch` ends the scan that is pending for it: each of its entries not converted to completion gets a
held sample, and nothing else gathers one (R29, R32). -/
def HoldsOverrun (s t : State) (ch : Channel) : Prop :=
  (∀ va, t.sav.get va = { s.sav.get va with buffer := (t.sav.get va).buffer })
    ∧ (∀ g, t.gra.inputs.get g = { s.gra.inputs.get g with buffer := (t.gra.inputs.get g).buffer })
    ∧ (s.acq.scans.get ch = none → t.sav = s.sav ∧ t.gra.inputs = s.gra.inputs)
    ∧ ∀ sc, s.acq.scans.get ch = some sc → sc.entries.Nodup →
        let inProgress : Prop := s.acq.converter.any (fun c => c.rev.channel = ch) = true
        let left := sc.entries.drop (if inProgress then sc.position - 1 else sc.position)
        (∀ va,
            t.sav.get va =
              if .va va ∈ left then { s.sav.get va with buffer := (s.sav.get va).buffer.map (RevBuffer.heldFor sc) }
              else s.sav.get va)
          ∧ ∀ g,
              t.gra.inputs.get g =
                if gridInputOf g ∈ left then
                  { s.gra.inputs.get g with buffer := (s.gra.inputs.get g).buffer.map (RevBuffer.heldFor sc) }
                else s.gra.inputs.get g

/-- The state after the inputs of a channel have started empty buffers for its revolution (R39, R58). -/
def State.gatheringFor (s : State) (rev : RevId) : State :=
  let fresh : Option RevBuffer := some ⟨rev, [], 0⟩
  { s with
    sav := Tab.ofFn fun va =>
      { s.sav.get va with
        buffer := if rev.channel ≠ .tg ∧ va ∈ s.vaList rev.channel then fresh else (s.sav.get va).buffer }
    gra := { s.gra with
      inputs := Tab.ofFn fun g =>
        { s.gra.inputs.get g with
          buffer := if rev.channel = .tg ∧ g ∈ s.present then fresh else (s.gra.inputs.get g).buffer } } }

/-- From `s` to `t` a strobe of `ch` for a slot of an open revolution is taken: without a scan list it does nothing; else a pending
scan ends by overrun and a new one is created. The arbiter acts when the converter is free, or is freed by the overrun, and chooses
among all scans of this instant; a conversion of another channel goes on (R29, R30, R32). -/
def TakesStrobe (s t : State) (ch : Channel) (rev : RevId) (slot samples : Nat) : Prop :=
  let idle := freeAt s.acq.converter t.now
  let scans := s.acq.scans.set ch (some ⟨rev, slot, samples, s.scanList ch, 0⟩)
  (s.scanList ch = [] → t.acq = s.acq ∧ t.sav = s.sav ∧ t.gra = s.gra)
    ∧ (s.scanList ch ≠ [] →
        HoldsOverrun s t ch ∧ t.acq.table = s.acq.table
          ∧ match s.acq.converter with
            | none => ArbiterActs scans true t
            | some c =>
              if c.rev.channel = ch ∧ (s.acq.scans.get ch).isSome then ArbiterActs scans idle t
              else if idle then
                ArbiterActs
                  (scans.set c.rev.channel ((scans.get c.rev.channel).map fun sc => { sc with position := sc.position - 1 })) true t
              else t.acq.scans = scans ∧ t.acq.converter = some c)

/-- From `s` to `t` the scan of `ch` ceases to be pending, a conversion for it is abandoned, and the arbiter acts when the converter
is free (R33). -/
def AbandonsScan (s t : State) (ch : Channel) : Prop :=
  let scans := s.acq.scans.set ch none
  t.acq.table = s.acq.table
    ∧ match s.acq.converter with
      | none => ArbiterActs scans true t
      | some c =>
        if c.rev.channel = ch then ArbiterActs scans (freeAt (some c) t.now) t
        else t.acq.scans = scans ∧ t.acq.converter = some c

/-- From `s` to `t` the regime becomes `r` without a candidate, and the active profile its map's entry: where that differs every
counter returns to 0, and the levels stay (R77, R78, R83). -/
def EntersRegime (s t : State) (r : Fin 8) : Prop :=
  t.rgc = { s.rgc with regime := r, candidate := none, active := s.rgc.settings.map.get r }
    ∧ ∀ va,
        let i := s.ind.get va
        t.ind.get va =
          if s.rgc.settings.map.get r = s.rgc.active then i
          else { i with levels := Tab.ofFn fun j => ⟨(i.levels.get j).level, 0, 0⟩ }

/-- From `s` to `t` the channel leaves LOCKED or HOLDOVER: its scan and its receivers' buffers are gone, the records of its list are
cleared where `staged` settings change Z or N, TG's open block is gone, and TL's regime is PARKED (R12, R20, R33, R41, R58, R66,
R77). -/
def LeavesLock (s t : State) (ch : Channel) (staged : Option TrackSettings) : Prop :=
  AbandonsScan s t ch
    ∧ (∀ va,
        let v := s.sav.get va
        let clears := va ∈ s.vaList ch ∧ ∃ new ∈ staged, (s.track ch).settings.recuts new
        let w := if clears then v.emptied t else v
        t.sav.get va = { w with buffer := if ch ≠ .tg ∧ va ∈ s.vaList ch then none else w.buffer })
    ∧ t.gra = { s.gra with inputs := t.gra.inputs, block := if ch = .tg then none else s.gra.block }
    ∧ (∀ g,
        let i := s.gra.inputs.get g
        t.gra.inputs.get g = { i with buffer := if ch = .tg ∧ g ∈ s.present then none else i.buffer })
    ∧ (ch = .tl → EntersRegime s t 0) ∧ (ch ≠ .tl → t.rgc = s.rgc ∧ t.ind = s.ind)

/-! ### What a close is judged on (R42, R59) -/

/-- What a buffer holds for a revolution: nothing when it is missing or belongs to another (R39, R40). -/
def gatheredFor (rev : RevId) (b : Option RevBuffer) : RevBuffer := (b.filter fun x => x.rev = rev).getD ⟨rev, [], 0⟩

/-- The slots of a closed revolution of N samples: the filled ones, and each empty one held at the nearest lower value, 0 before
the first (R42, R59). -/
def closedSlots (samples : Nat) (filled : List SlotSample) : List SlotSample :=
  (List.range samples).map fun i =>
    match filled.find? fun x => x.slot = i with
    | some x => x
    | none => ⟨i, (((filled.filter fun x => x.slot < i).getLast?).map SlotSample.value).getD 0, true, false⟩

/-- `r` is the whole part of the square root of `q`. -/
def IsRoot (r q : Nat) : Prop := r * r ≤ q ∧ q < (r + 1) * (r + 1)

/-- The change of a grid input's limit state, reported: to EXCEEDED with a snapshot and a WARN that carries its number, to NORMAL
with a NOTE (R69). -/
def State.reported (s : State) (before after : Bool) (g : Fin 6) (kind : AlertKind) (sub : Option Nat) (detail threshold : Nat)
    (body : SnapBody) : State :=
  let taken := s.sns.stack.length < 6 ∧ s.sns.nextNumber ≤ 4294967295
  let alert (v : Severity) (snap : SnapField) : Alert :=
    ⟨kind, v, .input (gridInputOf g), sub, some (detail : Int), some (threshold : Int), snap⟩
  if before = after then s
  else if after then
    { s with
      sns := if taken then ⟨s.sns.stack ++ [s.stampSnapshot body], s.sns.nextNumber + 1⟩ else s.sns
      alt := (s.raise (alert .warn (if taken then .number s.sns.nextNumber else .noSnapshot))).alt }
  else { s with alt := (s.raise (alert .note .absent)).alt }

/-! ### Start-up, alerts and the other blocks at an event -/

/-- What start-up leaves when it has loaded `stored`, with the time, the clocks but for farm time, the levels of the lines and the
queue as they stand (R23, R57, R75, R87, R107, R130, R143, R150, R164, R175, R180). -/
def State.startedUp (s : State) (stored : StoredImage) : State :=
  let image : Image := match stored with | .valid image => image | .blank | .bad => Image.defaults
  let loaded : Bool := match stored with | .valid _ => true | .blank | .bad => false
  let channel (ch : Channel) : Track :=
    { line := (s.track ch).line
      lock := if (image.track.get ch).enable then .acquiring else .off
      settings := image.track.get ch, staged := none, c := 0, tprev := none, ref := none, p := 0, rev := none, deadlineFrom := none
      transition := none, strobes := none, closedCount := 0, stallCount := 0, lastTicks := none, nextSerial := 0 }
  let owner (va : Fin 6) : Option Channel := [Channel.tl, .th, .tg].find? fun ch => .va va ∈ image.scan.list ch
  let limit : LimitState := ⟨false, 0, 0, none⟩
  { phase := .startup
    now := s.now
    trk := ⟨channel .tl, channel .th, channel .tg⟩
    acq := ⟨image.scan, ⟨none, none, none⟩, none⟩
    sav := Tab.ofFn fun va =>
      { settings := image.inputs.get va, owner := owner va, n := 0
        samples := ((owner va).map fun ch => (image.track.get ch).n).getD 256
        acc := List.replicate 256 0, buffer := none, counts := ⟨0, 0, 0, 0, 0⟩, clipRun := 0 }
    ind := Tab.replicate 6 ⟨none, Tab.replicate 8 ⟨.normal, 0, 0⟩, none, none, 0⟩
    gra :=
      { settings := image.grid, inputs := Tab.replicate 6 ⟨none, none, limit, limit⟩, block := none, last := none, blockCount := 0
        counts := ⟨0, 0, 0, 0⟩, energy := 0, remainder := 0, power := none }
    rgc := ⟨image.regime, 0, none, image.regime.map.get 0⟩
    icm :=
      { settings := image.ice, curve := image.curve, ambient := none, powerSum := 0, powerCount := 0, gathered := none
        state := match image.icing with | .clear => .clear | .iced => .iced | .thaw => .thaw
        e1 := 0, e2 := 0, runKind := none, tConfirm := none, tThaw := .stopped, baseline := image.baseline
        learnedCount := image.learnedCount, lastEval := none, nextEval := none, icestop := decide (image.icing ≠ .clear) }
    msc := image.items.map fun x =>
      let it : Item := ⟨x.tag, x.basis, x.source, x.interval, x.lead, x.accrued, .unused, x.calendarStart, x.lastDone, x.doneCount⟩
      { it with state := it.stateAt x.accrued }
    skd :=
      { low := s.skd.low, awaitRise := s.skd.low, fellAt := none, roseAt := none, train := none, lastTrain := 0, mode := .normal
        hold := none }
    alt :=
      if loaded then ⟨[], 1, false, false⟩
      else
        ⟨[⟨1, .storeDefaults, .warn, .none, none, none, none, 0, s.clk.deviceSeconds, none, 1, false, false, .absent⟩], 2, false,
          false⟩
    sns := ⟨[], 1⟩
    lnk := ⟨.hunting, s.lnk.lineLow, none, none, [], none, .none⟩
    clk := { s.clk with farm := none }
    sst := ⟨stored, none, false, false, loaded, 0⟩
    pending := s.pending }

/-- The consistency count after an interval in ACQUIRING (R6). -/
def Track.countThrough (t : Track) (i : Nat) : Nat :=
  if t.settings.tmin ≤ i ∧ i ≤ t.settings.tmax ∧ i < 4294967295 then
    if t.c = 0 ∨ ∃ prev ∈ t.tprev, ((i : Int) - prev).natAbs * 8 ≤ prev then t.c + 1 else 1
  else 0

/-- The state of the icing monitor after an evaluation, by its state, its evidence counts and the criteria (R119, R120, R122). -/
def Icm.stateAfter (m : Icm) (cold deficit imbalance : Option Bool) (temperature : Option Int) : IcingState :=
  match m.state with
  | .clear => if cold = some true then .watch else .clear
  | .watch =>
    if cold = some false then .clear
    else if cold = some true ∧ (deficit = some true ∨ imbalance = some true) ∧ 2 ≤ m.e1 then .suspect
    else .watch
  | .suspect =>
    if deficit = some true ∧ imbalance = some true ∧ m.runKind = some .confirm ∧ 2 ≤ m.e2 then .iced
    else if deficit = some false ∧ imbalance = some false ∧ m.runKind = some .clear ∧ 2 ≤ m.e2 then .watch
    else .suspect
  | .iced => if ∃ t ∈ temperature, m.settings.tice + 20 ≤ t then .thaw else .iced
  | .thaw =>
    if ∃ t ∈ temperature, t ≤ m.settings.tice then .iced
    else if temperature.isSome ∧ m.tThaw = .elapsed then .clear
    else .thaw

/-- What a new icing event at `now` does beyond the icing state itself, from `s` to `t`: a snapshot of ICE_INPUT's record when it is
not empty, ICE_STATE ALARM with its number, 1 into every ICE item, and a store write whose copy is taken after them (R124, R128; the
order is assumption 11). -/
def IcingEvent (s t : State) (now : Tick) : Prop :=
  let record := s.sav.get s.icm.settings.iceInput
  let room := s.sns.stack.length < 6 ∧ s.sns.nextNumber ≤ 4294967295
  let alarm : Alert :=
    ⟨.iceState, .alarm, .none, none, s.icm.knownTemperature, some s.icm.settings.tice,
      if record.n = 0 then .absent else if room then .number s.sns.nextNumber else .noSnapshot⟩
  let counted := (s.raise alarm).itemsCounted (addedTo (fun it => it.basis = .ice) 1)
  t.alt = counted.alt ∧ t.msc = counted.msc
    ∧ t.sns =
      (if 0 < record.n ∧ room then
        ⟨s.sns.stack ++
            [⟨s.sns.nextNumber, s.clk.deviceSeconds, s.clk.farm, decide (s.skd.mode = .service), decide (s.skd.mode = .test),
              .tsa s.icm.settings.iceInput record.averages record.n record.samples (s.ownerSpeed record.owner) s.rgc.regime⟩],
          s.sns.nextNumber + 1⟩
      else s.sns)
    ∧ t.sst =
      (if s.sst.inFlight.isSome then { s.sst with pendingWrite := true }
      else { s.sst with inFlight := some ⟨t.contents, now⟩ })

end Sys2Proof.Machine
end

