-- ==== Sys2Proof/Certificates/Slice0/Obligations.lean ====
section
/-! DEFINITION. The statements for the provers. A command's instant is `max s.now tick`, or the instant its state fixes: that an
earlier tick counts as the present one is the model's choice (assumption 6), and so is how a mark or a choice is carried on the line
where the spec gives no code (assumption 12). -/

open Sys2Proof Sys2Proof.Machine

/-! ### The queue -/

/-- One step takes the command at the front of the queue and runs it with the queue's rest. -/
def Obligations.StepRunsFrontCommand : Prop :=
  ∀ (c : Instr) (rest : List Instr) (s : State),
    step { s with pending := c :: rest } = exec c { s with pending := rest }

/-- No command touches the queue of the commands that wait. -/
def Obligations.CommandsLeaveTheQueue : Prop :=
  ∀ (c : Instr) (s t : State), exec c s = .next t → t.pending = s.pending

/-! ### The laws of the device -/

/-- Every step keeps the law of the alert list and of ATTN. -/
def Obligations.AlertLawKept : Prop := ∀ s t : State, AlertLaw s → step s = .next t → AlertLaw t

/-- Every step keeps the law of the snapshot stack. -/
def Obligations.SnapshotLawKept : Prop := ∀ s t : State, SnapshotLaw s → step s = .next t → SnapshotLaw t

/-- Every step keeps the law of the regime and the active profile; and the law of the levels: counters below the P of the active
row, and what waits for a computation. P is from 1 to 15 because the settings are valid (`SettingsLaw`). -/
def Obligations.RegimeLawKept : Prop :=
  ∀ s t : State, step s = .next t →
    (RegimeLaw s → RegimeLaw t) ∧ (SettingsLaw s → IndicatorLaw s → IndicatorLaw t)

/-- Every step keeps ICESTOP at the icing state, and the timers and evidence counts that fit the state. -/
def Obligations.IcingLawKept : Prop := ∀ s t : State, IcingLaw s → step s = .next t → IcingLaw t

/-- Every step keeps the hold timer running exactly in SERVICE and TEST. -/
def Obligations.ServiceLawKept : Prop := ∀ s t : State, ServiceLaw s → step s = .next t → ServiceLaw t

/-- Every step keeps what a channel may hold in each lock state, and what is gathered for its revolutions: their N, scans without
repeats, buffers in slot order and records of 256 accumulators. Z and N are allowed values because the settings are valid
(`SettingsLaw`). And it keeps the law of the grid analyzer: the energy remainder, the open block, the runs and named orders. -/
def Obligations.TrackingLawKept : Prop :=
  ∀ s t : State, step s = .next t →
    (SettingsLaw s → (TrackingLaw s → TrackingLaw t) ∧ (GatheringLaw s → GatheringLaw t)) ∧ (GridLaw s → GridLaw t)

/-- Every step keeps the items valid, CALENDAR items counting from their start, and farm time unsynced until start-up has ended. -/
def Obligations.ItemLawKept : Prop := ∀ s t : State, ItemLaw s → step s = .next t → ItemLaw t

/-- Every step keeps every setting, staged, in force or stored, within the values of its rule, and each input's owner the one the
scan table gives. -/
def Obligations.SettingsLawKept : Prop := ∀ s t : State, SettingsLaw s → step s = .next t → SettingsLaw t

/-- Every step keeps the law of the link: the reply order, the request served, the waiting one, and the write SAVE waits for. -/
def Obligations.LinkLawKept : Prop := ∀ s t : State, LinkLaw s → step s = .next t → LinkLaw t

/-- Every law holds right after reset (the state of assumption 4). -/
def Obligations.LawsHoldAtReset : Prop :=
  AlertLaw State.reset ∧ SnapshotLaw State.reset ∧ RegimeLaw State.reset ∧ IcingLaw State.reset ∧ ServiceLaw State.reset
    ∧ TrackingLaw State.reset ∧ GatheringLaw State.reset ∧ ItemLaw State.reset ∧ SettingsLaw State.reset ∧ LinkLaw State.reset
    ∧ IndicatorLaw State.reset ∧ GridLaw State.reset

/-- Between start-ups the icing state leaves ICED or THAW for CLEAR only from THAW, by T_thaw's expiry or at an evaluation after it,
with fresh ambient above Tice, or in a step that is about an ICE_RELEASE while service hold is active. -/
def Obligations.IcedEndsOnlyByThawOrRelease : Prop :=
  ∀ (c : Instr) (s t : State),
    exec c s = .next t → s.icm.state.stops = true → t.icm.state = .clear →
      (c = .powerOn ∨ ∃ tick, c = .resetBegin tick ∨ c = .powerLoss tick)
        ∨ (s.icm.state = .thaw ∧ (c = .tThawExpiry ∨ (c = .iceEvaluation ∧ s.icm.tThaw = .elapsed))
            ∧ ∃ temperature, s.icm.knownTemperature = some temperature ∧ s.icm.settings.tice < temperature)
        ∨ (s.serviceHold = true ∧ s.requestIn c = some .iceRelease)

/-- An item's accrued count falls only at a start-up or a loss of supply, by a SERVICE_DONE of its slot under service hold, by a
SET_ITEM of its slot that does not keep its count, or, for a CALENDAR item, by a wrap of farm time or a TIME that is not later. -/
def Obligations.AccruedFallsOnlyByService : Prop :=
  ∀ (c : Instr) (s t : State) (slot : Fin 16),
    ItemLaw s → exec c s = .next t → (t.msc.get slot).accrued < (s.msc.get slot).accrued →
      (c = .powerOn ∨ ∃ tick, c = .resetBegin tick ∨ c = .powerLoss tick)
        ∨ (s.serviceHold = true ∧ s.requestIn c = some (.serviceDone slot.val))
        ∨ (∃ f, s.requestIn c = some (.setItem f) ∧ f.slot = slot.val
            ∧ ¬(f.choice = .keep ∧ basisOf f.basis = some (s.msc.get slot).basis))
        ∨ ((s.msc.get slot).basis = .calendar
            ∧ ((c = .deviceSecond ∧ s.clk.farm = some 4294967295)
              ∨ ∃ farm, s.requestIn c = some (.time farm) ∧ ∀ f, s.clk.farm = some f → farm < f))

/-! ### Requests of the link and the clock (chapter 10) -/

/-- HELLO is answered OK with the names, the revision and the capacities, and changes nothing else. -/
def Obligations.HelloIdentifiesThePart : Prop :=
  ∀ (s : State) (tick : Tick), s.ServesAtOnce →
    exec (.hello tick) s =
      .next ((s.advance tick).replied 0x81 .ok
        ([0x42, 0x55, 0x4C, 0x54, 0x41, 0x52, 0x41, 0x57, 0x4D, 0x2D, 0x36, 1, 3, 12, 6, 24, 8, 8, 16, 32, 6, 250, 64].map u1))

/-- TIME sets farm time, gives a CALENDAR item without a start the value set, and recounts every CALENDAR item, its state recomputed
and an upward move reported, in slot order (assumption 11); the position of device seconds and everything else stand. -/
def Obligations.TimeSetsFarmTime : Prop :=
  ∀ (s : State) (tick : Tick) (farm : Nat), s.ServesAtOnce → farm ≤ 4294967295 →
    let started : State :=
      { s with
        clk := { s.clk with farm := some farm }
        msc := s.msc.map fun it =>
          if it.basis = .calendar ∧ it.calendarStart = none then { it with calendarStart := some farm } else it }
    ∃ t, exec (.time farm tick) s = .next t
      ∧ t = { started.itemsCounted (calendarCount (some farm)) with
          now := max s.now tick, lnk := (s.replied 0x83 .ok (optionalNat 4 s.clk.farm ++ [u4 farm])).lnk }
      ∧ ∀ slot,
          let it := s.msc.get slot
          let start := it.calendarStart.getD farm
          t.msc.get slot =
            if it.basis = .calendar then
              { it with
                calendarStart := some start, accrued := farm - start
                state := itemStateOf (it.interval * 86400) (it.lead * 86400) (farm - start) }
            else it

/-- While a request is served, one that completes waits when nothing waits and is answered BUSY otherwise; a frame that completes
when 16 places are held, a RESET has been served, or the part does not run is dropped. Nothing else changes. That a RESET waits
too is the model's reading (assumption 9). -/
def Obligations.LaterRequestsWaitOrAreBusy : Prop :=
  ∀ (c : Instr) (r : Request) (w : SaveWaits) (s : State), c.request = some r →
    (s.phase = .running →
      (s.lnk.reset = .none → s.lnk.order.length < 16 → s.lnk.serving = some w →
          (s.lnk.waiting = none →
            exec c s = .next
              ({ s.advance (sentAt c) with
                  lnk := { s.lnk with order := s.lnk.order ++ [(⟨none, false⟩ : Place)], waiting := some r } }).kick)
            ∧ (s.lnk.waiting.isSome →
                exec c s = .next ((s.advance (sentAt c)).replied (requestType r + 0x80) .busy [])))
        ∧ (s.lnk.reset ≠ .none ∨ 16 ≤ s.lnk.order.length → exec c s = .next (s.advance (sentAt c))))
      ∧ (s.phase = .startup → exec c s = .next (s.advance (sentAt c))) ∧ (s.phase = .off → exec c s = .next s)

/-- A request answered with anything but OK, STAGED or EMPTY has changed nothing. -/
def Obligations.RefusedRequestsChangeNothing : Prop :=
  ∀ (r : Request) (s : State),
    (s.answer r).2.status ≠ .ok → (s.answer r).2.status ≠ .staged → (s.answer r).2.status ≠ .empty → (s.answer r).1 = s

/-- Every well-formed request is read back from the type and the payload a host sends for it, and its length is an allowed one; a
SET_ITEM with basis NONE is read whatever its choice byte, which the part does not judge. The codes of choices that the spec does
not number are the model's (assumption 12). -/
def Obligations.RequestsAreReadBack : Prop :=
  (∀ r : Request, r.wellFormed = true →
      requestOf (requestType r) (requestPayload r) = some r
        ∧ allowedLength (requestType r) (requestPayload r) = some (requestPayload r).length)
    ∧ ∀ (f : ItemFields) (b : Byte), f.wellFormed = true → f.basis = 0 →
        ∃ choice, requestOf 0x38 ((requestPayload (.setItem f)).take 13 ++ [b]) = some (.setItem { f with choice := choice })

/-- The frame of a well-formed request, received byte by byte by a hunting receiver, does what the request's own row does: it takes
its place and is served, made to wait, or answered BUSY. That a row stands for a complete frame, and the codes of choices, are the
model's (assumptions 8 and 12). A frame, of a request or of a reply, is the start byte, the length, the type, the payload and the
CRC of what lies between; a reply's payload is its status and its fields, each high byte first; and a kick sends the head of the
reply order when it is ready and nothing is being sent. -/
def Obligations.FramesReachService : Prop :=
  (∀ (r : Request) (s : State), r.wellFormed = true → s.lnk.receiver = .hunting → s.lnk.lineLow = false →
      s.receiveAll (requestFrame r) = s.submit r)
    ∧ (∀ r : Request, requestFrame r = frameBytes (requestType r) (requestPayload r))
    ∧ (∀ (type : Nat) (payload : List Byte),
        let body := BitVec.ofNat 8 payload.length :: BitVec.ofNat 8 type :: payload
        let shifted (x : BitVec 16) : BitVec 16 := if x.msb then (x <<< 1) ^^^ 0x1021 else x <<< 1
        let joined (x : BitVec 16) (b : Byte) : BitVec 16 := Nat.repeat shifted 8 (x ^^^ BitVec.ofNat 16 (b.toNat * 256))
        let sum := body.foldl joined 0xFFFF
        frameBytes type payload = 0xC3 :: body ++ [(sum >>> 8).setWidth 8, sum.setWidth 8])
    ∧ (∀ r : Reply,
        let bytes (f : Field) : List Byte :=
          (List.range f.width).map fun k => BitVec.ofInt 8 (f.value / (256 ^ (f.width - 1 - k) : Nat))
        r.bytes = frameBytes r.type (BitVec.ofNat 8 r.status.code :: r.fields.flatMap bytes))
    ∧ (∀ l : Lnk,
        l.kicked =
          { l with
            sending :=
              if l.sending = none then l.order.head?.bind fun p => p.reply.map Reply.bytes else l.sending })
    ∧ ([.ok, .staged, .empty, .badFrame, .badType, .badLength, .badValue, .conflict, .busy, .notInService, .timeUnset, .badState,
          .storeFault] : List Status).map Status.code =
        [0x00, 0x01, 0x02, 0x10, 0x11, 0x12, 0x13, 0x14, 0x15, 0x16, 0x17, 0x18, 0x19]

/-! ### Requests of the other blocks -/

/-- SET_TRACK: staged while the channel follows pulses; applied at once otherwise, with the state of R19 and the TSA records of the
list cleared when Z or N changed; and refused whole when the channel or a value is not allowed. That a Tmax above 4,294,967,295 and
a filter above 65,535, which no frame can carry, are refused is the model's choice (assumption 13), and so is that the pulse index
is kept when Z is lowered (assumption 19). -/
def Obligations.SetTrackStagesOrApplies : Prop :=
  ∀ (s : State) (tick : Tick) (f : TrackFields), s.ServesAtOnce →
    let new : TrackSettings := ⟨f.enable, f.edge, f.z, f.n, f.tmin, f.tmax, f.filter⟩
    (∀ ch, f.channel = (match ch with | .tl => 0 | .th => 1 | .tg => 2) → new.InRange ch →
        ((s.track ch).lock.following = true →
          exec (.setTrack f tick) s =
            .next (({ s.advance tick with
                trk := s.trk.set ch { s.track ch with staged := some new } }).replied 0x90 .staged []))
          ∧ ((s.track ch).lock.following = false →
              ∃ t, exec (.setTrack f tick) s = .next t
                ∧ t = { s with
                    now := max s.now tick, trk := s.trk.set ch ((s.track ch).settled new), sav := t.sav
                    lnk := (s.replied 0x90 .ok []).lnk }
                ∧ ∀ va,
                    t.sav.get va =
                      if va ∈ s.vaList ch ∧ (s.track ch).settings.recuts new then (s.sav.get va).emptied t
                      else s.sav.get va))
      ∧ ((∀ ch, f.channel = (match ch with | .tl => 0 | .th => 1 | .tg => 2) → ¬new.InRange ch) →
          exec (.setTrack f tick) s = .next ((s.advance tick).replied 0x90 .badValue []))

/-- SET_SCAN: an accepted table replaces the one in force; every open revolution, every scan, TG's open block and what is gathered
for them are discarded with no change of lock state; each VA input whose owner changes records the new one and has its record
cleared, at the new owner's N (assumption 10); and a grid input that enters or leaves the TG list starts afresh. A table that fails
a check of R26 is answered BAD_VALUE and one that fails only R27 CONFLICT, and nothing changes. -/
def Obligations.SetScanReplacesTheTable : Prop :=
  ∀ (s : State) (tick : Tick) (f : ScanFields), s.ServesAtOnce →
    (∀ (table : ScanTable) (lists : PerChannel (List Input)), table.CarriedBy f → (∀ ch, table.Lists ch (lists.get ch)) →
      (lists.tl ++ lists.th ++ lists.tg).Nodup →
        let opened (ch : Channel) : Bool := (s.track ch).rev.isSome
        let owner (va : Fin 6) : Option Channel := [Channel.tl, .th, .tg].find? fun ch => .va va ∈ lists.get ch
        (∀ ch, table.list ch = lists.get ch) ∧ ∃ t, exec (.setScan f tick) s = .next t
          ∧ t = { s with
              now := max s.now tick, trk := t.trk, acq := ⟨table, ⟨none, none, none⟩, none⟩, sav := t.sav
              gra := { s.gra with block := if opened .tg then none else s.gra.block, inputs := t.gra.inputs }
              lnk := (s.replied 0x92 .ok []).lnk }
          ∧ (∀ ch, t.track ch = { s.track ch with rev := none, strobes := if opened ch then none else (s.track ch).strobes })
          ∧ (∀ va,
              let v := s.sav.get va
              let w := { v with
                owner := owner va
                buffer := if va ∈ s.vaList .tl ∧ opened .tl ∨ va ∈ s.vaList .th ∧ opened .th then none else v.buffer }
              t.sav.get va = if owner va = v.owner then w else w.emptied s)
          ∧ ∀ g,
              let i := s.gra.inputs.get g
              t.gra.inputs.get g =
                if gridInputOf g ∈ s.scanList .tg ↔ gridInputOf g ∈ lists.tg then
                  { i with buffer := if gridInputOf g ∈ s.scanList .tg ∧ opened .tg then none else i.buffer }
                else ⟨none, none, ⟨false, 0, 0, none⟩, ⟨false, 0, 0, none⟩⟩)
      ∧ ((¬NumbersInRange f ∨ ∃ (table : ScanTable) (ch : Channel), table.CarriedBy f ∧ ∀ l, ¬table.Lists ch l) →
          exec (.setScan f tick) s = .next ((s.advance tick).replied 0x92 .badValue []))
      ∧ (∀ (table : ScanTable) (lists : PerChannel (List Input)), table.CarriedBy f → (∀ ch, table.Lists ch (lists.get ch)) →
        ¬(lists.tl ++ lists.th ++ lists.tg).Nodup →
          exec (.setScan f tick) s = .next ((s.advance tick).replied 0x92 .conflict []))

/-- SET_INPUT: in range, it replaces the input's shift and orders and sets the level states of the orders that changed to NORMAL;
otherwise nothing changes. -/
def Obligations.SetInputReplacesTheSettings : Prop :=
  ∀ (s : State) (tick : Tick) (f : InputFields), s.ServesAtOnce →
    (∀ va, f.input = va.val → (⟨f.k, f.orders⟩ : InputSettings).InRange →
        ∃ t, exec (.setInput f tick) s = .next t
          ∧ t = { s with
              now := max s.now tick, sav := s.sav.set va { s.sav.get va with settings := ⟨f.k, f.orders⟩ }
              ind := s.ind.set va { s.ind.get va with levels := (t.ind.get va).levels }, lnk := (s.replied 0x98 .ok []).lnk }
          ∧ ∀ i,
              (t.ind.get va).levels.get i =
                if orderAt (s.sav.get va).settings.orders i = orderAt f.orders i then (s.ind.get va).levels.get i
                else ⟨.normal, 0, 0⟩)
      ∧ (6 ≤ f.input ∨ ¬(⟨f.k, f.orders⟩ : InputSettings).InRange →
          exec (.setInput f tick) s = .next ((s.advance tick).replied 0x98 .badValue []))

/-- CLEAR_AVERAGE: the named input, or each of the six, has its record emptied and, with the choice yes, its levels set to NORMAL;
any other number is refused. -/
def Obligations.ClearAverageEmptiesRecords : Prop :=
  ∀ (s : State) (tick : Tick) (input : Nat) (resetLevels : Bool), s.ServesAtOnce →
    (input < 6 ∨ input = 255 →
        ∃ t, exec (.clearAverage input resetLevels tick) s = .next t
          ∧ t = { s with now := max s.now tick, sav := t.sav, ind := t.ind, lnk := (s.replied 0x99 .ok []).lnk }
          ∧ ∀ va : Fin 6,
              let v := s.sav.get va
              if input = 255 ∨ input = va.val then
                t.sav.get va =
                    { v with n := 0, samples := (v.owner.map fun ch => (s.track ch).settings.n).getD v.samples }
                  ∧ t.ind.get va =
                    if resetLevels then { s.ind.get va with levels := Tab.replicate 8 ⟨.normal, 0, 0⟩ } else s.ind.get va
              else t.sav.get va = v ∧ t.ind.get va = s.ind.get va)
      ∧ (6 ≤ input → input ≠ 255 →
          exec (.clearAverage input resetLevels tick) s = .next ((s.advance tick).replied 0x99 .badValue []))

/-- SET_GRID, SET_ICE and SET_CURVE replace their settings whole when every value is in range and change nothing otherwise; an
accepted SET_ICE also empties the baseline when ICE_INPUT changes or the request asks for it, drops the amplitude gathered for
another input, and sets the next evaluation one new period on when the period changes. That a Kp above 65,535, which no frame can
carry, is refused is the model's choice (assumption 13), and so is the 0 that an empty baseline holds (assumption 24). -/
def Obligations.SettingsAreReplacedWhole : Prop :=
  ∀ (s : State) (tick : Tick), s.ServesAtOnce →
    (∀ f : GridFields,
        exec (.setGrid f tick) s =
          if (∀ l ∈ f.limits.list, l ≤ 9999) ∧ f.voltageThd ≤ 9999 ∧ f.currentThd ≤ 9999 ∧ f.kp ≤ 65535 then
            .next (({ s.advance tick with
              gra := { s.gra with settings := ⟨f.limits, f.voltageThd, f.currentThd, f.kp⟩ } }).replied 0xA0 .ok [])
          else .next ((s.advance tick).replied 0xA0 .badValue []))
      ∧ (∀ (f : IceFields) (va : Fin 6), f.iceInput = va.val →
          let new : IceSettings := ⟨f.tice, f.hice, f.powerMargin, f.imbalanceMargin, f.period, f.tConfirm, f.tThaw, va⟩
          exec (.setIce f tick) s =
            if new.InRange then
              .next (({ s.advance tick with
                icm := { s.icm with
                  settings := new
                  baseline := if va ≠ s.icm.settings.iceInput ∨ f.zeroBaseline then 0 else s.icm.baseline
                  learnedCount := if va ≠ s.icm.settings.iceInput ∨ f.zeroBaseline then 0 else s.icm.learnedCount
                  gathered := if va ≠ s.icm.settings.iceInput then none else s.icm.gathered
                  nextEval :=
                    if f.period ≠ s.icm.settings.period then some (max s.now tick + f.period * 2000000)
                    else s.icm.nextEval } }).replied 0xB1 .ok [])
            else .next ((s.advance tick).replied 0xB1 .badValue []))
      ∧ (∀ f : IceFields, 6 ≤ f.iceInput → exec (.setIce f tick) s = .next ((s.advance tick).replied 0xB1 .badValue []))
      ∧ ∀ points : List CurvePoint,
          exec (.setCurve points tick) s =
            if points.length ≠ 1 ∧ points.length ≤ 16 ∧ (∀ p ∈ points, p.wind ≤ 600 ∧ p.power ≤ 32767)
                ∧ points.Pairwise (fun p q => p.wind < q.wind) then
              .next (({ s.advance tick with icm := { s.icm with curve := points } }).replied 0xB2 .ok [])
            else .next ((s.advance tick).replied 0xB2 .badValue [])

/-- SET_REGIME replaces the breakpoints and the map, keeps the regime, and clears the candidate when a breakpoint differs;
SET_PROFILE replaces one row. Where the active profile changes, or its row is written, the counters concerned return to 0, and the
levels and all else of the evaluator stay. A request out of range changes nothing; that a W or an L above 65,535, which no frame can
carry, is out of range is the model's choice (assumption 13). -/
def Obligations.RegimeAndProfilesAreSet : Prop :=
  ∀ (s : State) (tick : Tick), s.ServesAtOnce →
    let zeroed (va : Fin 6) : Ind :=
      { s.ind.get va with levels := Tab.ofFn fun i => ⟨((s.ind.get va).levels.get i).level, 0, 0⟩ }
    (∀ f : RegimeFields,
        if (∀ b ∈ f.breakpoints.list, b ≤ 32767) ∧ f.breakpoints.list.Pairwise (· < ·) ∧ ∀ m ∈ f.map.list, m ≤ 7 then
          ∃ t, exec (.setRegime f tick) s = .next t
            ∧ t = { s with now := max s.now tick, rgc := t.rgc, ind := t.ind, lnk := (s.replied 0xA8 .ok []).lnk }
            ∧ t.rgc.settings.breakpoints = f.breakpoints ∧ (∀ r, (t.rgc.settings.map.get r).val = f.map.get r)
            ∧ t.rgc.settings.profiles = s.rgc.settings.profiles ∧ t.rgc.regime = s.rgc.regime
            ∧ t.rgc.active.val = f.map.get s.rgc.regime
            ∧ t.rgc.candidate = (if f.breakpoints = s.rgc.settings.breakpoints then s.rgc.candidate else none)
            ∧ ∀ va, t.ind.get va = if t.rgc.active = s.rgc.active then s.ind.get va else zeroed va
        else exec (.setRegime f tick) s = .next ((s.advance tick).replied 0xA8 .badValue []))
      ∧ (∀ (f : ProfileFields) (profile : Fin 8) (va : Fin 6),
          f.profile = profile.val → f.input = va.val → (⟨f.levels, f.persistence⟩ : Row).InRange →
            ∃ t, exec (.setProfile f tick) s = .next t
              ∧ t = { s with
                  now := max s.now tick, ind := t.ind, lnk := (s.replied 0xA9 .ok []).lnk
                  rgc := { s.rgc with settings := { s.rgc.settings with profiles := t.rgc.settings.profiles } } }
              ∧ (∀ p v, t.row p v = if p = profile ∧ v = va then ⟨f.levels, f.persistence⟩ else s.row p v)
              ∧ ∀ v, t.ind.get v = if profile = s.rgc.active ∧ v = va then zeroed v else s.ind.get v)
      ∧ ∀ f : ProfileFields, 8 ≤ f.profile ∨ 6 ≤ f.input ∨ ¬(⟨f.levels, f.persistence⟩ : Row).InRange →
          exec (.setProfile f tick) s = .next ((s.advance tick).replied 0xA9 .badValue [])

/-- AMBIENT replaces the whole record, each field clamped to the nearer end of its range with a clamped mark, and the record is
fresh with age 0; no icing state, counter or timer changes. How the marks are carried is the model's choice (assumption 12). -/
def Obligations.AmbientReplacesTheRecord : Prop :=
  ∀ (s : State) (tick : Tick) (temperature humidity wind : Int), s.ServesAtOnce →
    exec (.ambient ⟨temperature, humidity, wind⟩ tick) s =
      .next (({ s.advance tick with
          icm := { s.icm with
            ambient := some
              ⟨max (-500) (min 500 temperature), max 0 (min 100 humidity), max 0 (min 600 wind), max s.now tick, true⟩ } }).replied
        0xB0 .ok
        [mark (decide (temperature < -500 ∨ 500 < temperature)), mark (decide (humidity < 0 ∨ 100 < humidity)),
          mark (decide (wind < 0 ∨ 600 < wind))])

/-- ICE_RELEASE: BAD_STATE in CLEAR, WATCH and SUSPECT; NOT_IN_SERVICE in ICED and THAW in NORMAL; otherwise CLEAR is entered,
T_thaw stops, ICESTOP is released, ICE_STATE NOTE is raised without detail, and a store write is requested. -/
def Obligations.IceReleaseIsJudged : Prop :=
  ∀ (s : State) (tick : Tick), s.ServesAtOnce →
    (s.icm.state.stops = false → exec (.iceRelease tick) s = .next ((s.advance tick).replied 0xB4 .badState []))
      ∧ (s.icm.state.stops = true → s.skd.mode = .normal →
          exec (.iceRelease tick) s = .next ((s.advance tick).replied 0xB4 .notInService []))
      ∧ (s.icm.state.stops = true → s.skd.mode ≠ .normal →
          ∃ t, exec (.iceRelease tick) s = .next t
            ∧ t = { s with
                now := max s.now tick, alt := t.alt, lnk := (s.replied 0xB4 .ok []).lnk, sst := t.sst
                icm := { s.icm with
                  state := .clear, icestop := false, e1 := 0, e2 := 0, runKind := none, tConfirm := none, tThaw := .stopped } }
            ∧ t.alt = (s.raise ⟨.iceState, .note, .none, none, none, none, .absent⟩).alt
            ∧ (s.sst.inFlight = none → t.sst = { s.sst with inFlight := some ⟨t.contents, max s.now tick⟩ })
            ∧ (s.sst.inFlight.isSome → t.sst = { s.sst with pendingWrite := true }))

/-- SET_ITEM writes the slot as R139 says, its state recomputed, with one ITEM_STATE alert for an upward move and none otherwise; a
request that R138 refuses changes nothing. The reply carries the item. -/
def Obligations.SetItemWritesTheSlot : Prop :=
  ∀ (s : State) (tick : Tick) (f : ItemFields), s.ServesAtOnce →
    let named : Option Basis := [Basis.none, .operating, .revolutions, .energy, .damage, .ice, .calendar][f.basis]?
    let required (b : Basis) : Option ItemSource :=
      match b with
      | .damage => ([0, 1, 2, 3, 4, 5] : List (Fin 6))[f.source]?.map .va
      | .revolutions => [Channel.tl, .th][f.source]?.map .channel
      | .none | .operating | .energy | .ice | .calendar => if f.source = 255 then some .none else none
    (∀ slot : Fin 16, f.slot = slot.val → f.basis = 0 →
        exec (.setItem f tick) s =
          .next (({ s.advance tick with msc := s.msc.set slot Item.unused }).replied 0xB8 .ok Item.unused.fields))
      ∧ (∀ (slot : Fin 16) (b : Basis) (src : ItemSource),
          f.slot = slot.val → named = some b → b ≠ .none → required b = some src →
          f.tag ≤ 65535 → 1 ≤ f.interval → f.interval ≤ 1000000 → f.lead ≤ 1000000 →
            let it := s.msc.get slot
            let kept := it.basis = b ∧ f.choice = .keep
            let start := if b = .calendar then s.clk.farm else none
            let accrued := if kept then it.accrued else 0
            let new : Item :=
              { tag := f.tag, basis := b, source := src, interval := f.interval, lead := f.lead, accrued := accrued
                state := itemStateOf (f.interval * b.factor) (f.lead * b.factor) accrued
                calendarStart := if kept then it.calendarStart else start
                lastDone := if it.basis = b then it.lastDone else none
                doneCount := if it.basis = b then it.doneCount else 0 }
            ∃ t, exec (.setItem f tick) s = .next t
              ∧ t = { s with
                  now := max s.now tick, msc := s.msc.set slot new, alt := t.alt, lnk := (s.replied 0xB8 .ok new.fields).lnk }
              ∧ (¬(it.state.rank < new.state.rank ∧ 1 < new.state.rank) → t.alt = s.alt)
              ∧ ∀ v, it.state.rank < new.state.rank → new.state.severity = some v →
                  t.alt = (s.raise ⟨.itemState, v, .slot slot, none, some (accrued / b.factor : Nat),
                    some (new.threshold new.state : Nat), .absent⟩).alt)
      ∧ ((16 ≤ f.slot ∨ named = none
            ∨ ∃ b, named = some b ∧ b ≠ .none
              ∧ (required b = none ∨ f.interval = 0 ∨ 1000000 < f.interval ∨ 1000000 < f.lead)) →
          exec (.setItem f tick) s = .next ((s.advance tick).replied 0xB8 .badValue []))

/-- SERVICE_DONE, by the first outcome that applies: BAD_VALUE above slot 15, NOT_IN_SERVICE in NORMAL, BAD_VALUE for an UNUSED
item, TIME_UNSET for a CALENDAR item while farm time is unsynced, and otherwise OK: the count returns to 0, the state to RUNNING,
the service is recorded, and SERVICE_RECORDED NOTE carries the count before in display units. -/
def Obligations.ServiceDoneRecordsAService : Prop :=
  ∀ (s : State) (tick : Tick), s.ServesAtOnce →
    (∀ raw, 16 ≤ raw → exec (.serviceDone raw tick) s = .next ((s.advance tick).replied 0xB9 .badValue []))
      ∧ ∀ slot : Fin 16,
          let it := s.msc.get slot
          (s.skd.mode = .normal →
              exec (.serviceDone slot.val tick) s = .next ((s.advance tick).replied 0xB9 .notInService []))
            ∧ (s.skd.mode ≠ .normal → it.basis = .none →
                exec (.serviceDone slot.val tick) s = .next ((s.advance tick).replied 0xB9 .badValue []))
            ∧ (s.skd.mode ≠ .normal → it.basis = .calendar → s.clk.farm = none →
                exec (.serviceDone slot.val tick) s = .next ((s.advance tick).replied 0xB9 .timeUnset []))
            ∧ (s.skd.mode ≠ .normal → it.basis ≠ .none → (it.basis = .calendar → s.clk.farm.isSome) →
                let new : Item :=
                  { it with
                    accrued := 0, state := .running, doneCount := min 65535 (it.doneCount + 1), lastDone := s.clk.farm
                    calendarStart := if it.basis = .calendar then s.clk.farm else it.calendarStart }
                exec (.serviceDone slot.val tick) s =
                  .next (({ s.advance tick with
                      msc := s.msc.set slot new
                      alt := (s.raise ⟨.serviceRecorded, .note, .slot slot, none, some (it.accrued / it.basis.factor : Nat),
                        some (it.interval : Nat), .absent⟩).alt }).replied 0xB9 .ok new.fields))

/-- FETCH carries the first four records, or all when fewer are held, removes them, reports the overflow flag and clears it; on an
empty list the reply is EMPTY. Each record is carried in 33 bytes, with its kinds and severities numbered from 1 and its flags from
bit 0 up. How the overflow flag is carried is the model's choice (assumption 12). -/
def Obligations.FetchCarriesTheFirstRecords : Prop :=
  (∀ (s : State) (tick : Tick), s.ServesAtOnce →
      exec (.fetch tick) s =
        .next (({ s.advance tick with
            alt := ⟨s.alt.records.drop 4, s.alt.nextSeq, false, decide (s.alt.records.drop 4 ≠ [])⟩ }).replied 0xC0
          (if s.alt.records = [] then .empty else .ok)
          ([u1 (s.alt.records.length - 4 : Nat), mark s.alt.overflow, u1 (min 4 s.alt.records.length : Nat)]
            ++ (s.alt.records.take 4).flatMap AlertRecord.fields)))
    ∧ (∀ r : AlertRecord,
        let flags :=
          [r.detail.isSome, r.detail.any (· < 0), r.threshold.isSome, r.threshold.any (· < 0), r.farm.isSome, r.service, r.test]
        let source : Nat × Nat :=
          match r.source with
          | .none => (0, 0)
          | .input (.va i) => (1, i.val)
          | .input (.gv p) => (1, 6 + p.val)
          | .input (.gi p) => (1, 9 + p.val)
          | .channel ch => (2, match ch with | .tl => 0 | .th => 1 | .tg => 2)
          | .slot i => (3, i.val)
        let snapshot : Nat × Nat := match r.snapshot with | .absent => (0, 0) | .number n => (1, n) | .noSnapshot => (2, 0)
        r.fields =
            [⟨4, r.seq⟩, ⟨1, r.kind.code⟩, ⟨1, r.severity.code⟩, ⟨1, source.1⟩, ⟨1, source.2⟩, ⟨1, r.sub.getD 255⟩,
              ⟨1, (flags.zipIdx.map fun x => if x.1 then 2 ^ x.2 else 0).sum⟩, ⟨4, (r.detail.getD 0).natAbs⟩,
              ⟨4, (r.threshold.getD 0).natAbs⟩, ⟨1, r.regime.val⟩, ⟨1, r.repeats⟩, ⟨4, r.deviceSeconds⟩, ⟨4, r.farm.getD 0⟩,
              ⟨1, snapshot.1⟩, ⟨4, snapshot.2⟩]
          ∧ (r.fields.map Field.width).sum = 33)
    ∧ ([.vibLevel, .iceImbalance, .sensorSaturated, .trackLost, .gridRange, .gridHarmonic, .gridThd, .iceState, .ambientStale,
          .itemState, .serviceRecorded, .serviceMode, .storeDefaults, .storeFault] : List AlertKind).map AlertKind.code =
        (List.range 14).map (· + 1)
    ∧ ([.note, .warn, .alarm] : List Severity).map Severity.code = [1, 2, 3]

/-- SNAP_READ carries the header and values of the top snapshot without changing the stack, and SNAP_POP removes the top snapshot
when it is the one named, each by the first check that applies. -/
def Obligations.SnapshotsAreReadAndPopped : Prop :=
  ∀ (s : State) (tick : Tick), s.ServesAtOnce →
    (∀ offset count, count = 0 ∨ 64 < count →
        exec (.snapRead offset count tick) s = .next ((s.advance tick).replied 0xC1 .badValue []))
      ∧ (∀ offset count, 1 ≤ count → count ≤ 64 → s.sns.stack = [] →
          exec (.snapRead offset count tick) s = .next ((s.advance tick).replied 0xC1 .empty [u1 0]))
      ∧ (∀ number, s.sns.stack = [] → exec (.snapPop number tick) s = .next ((s.advance tick).replied 0xC2 .empty []))
      ∧ ∀ (below : List Snapshot) (top : Snapshot), s.sns.stack = below ++ [top] →
          let (kind, about, values) : List Field × List Field × List Field :=
            match top.body with
            | .tsa va vs n samples speed regime =>
              ([⟨1, 1⟩, ⟨1, va.val⟩], [⟨2, n⟩, ⟨2, samples⟩, ⟨4, min 4294967295 speed⟩, ⟨1, regime.val⟩], vs.map fun v => ⟨2, v⟩)
            | .grid g vs thd pkw =>
              ([⟨1, 2⟩, ⟨1, 6 + g.val⟩], [⟨2, thd⟩, ⟨2, pkw.getD 0⟩, ⟨4, 0⟩, ⟨1, 0⟩], vs.map fun (v : Nat) => ⟨4, v⟩)
          let flags :=
            [top.farm.isSome, top.service, top.test, match top.body with | .tsa .. => false | .grid _ _ _ pkw => pkw.isSome]
          (∀ offset count, 1 ≤ count → count ≤ 64 →
              exec (.snapRead offset count tick) s =
                if values.length < offset + count then .next ((s.advance tick).replied 0xC1 .badValue [])
                else
                  .next ((s.advance tick).replied 0xC1 .ok
                    ([⟨1, (below.length + 1 : Nat)⟩, ⟨4, top.number⟩] ++ kind
                      ++ [⟨1, (flags.zipIdx.map fun x => if x.1 then 2 ^ x.2 else 0).sum⟩, ⟨4, top.deviceSeconds⟩,
                        ⟨4, top.farm.getD 0⟩]
                      ++ about ++ [⟨2, offset⟩, ⟨1, count⟩] ++ (values.drop offset).take count)))
            ∧ ∀ number,
                exec (.snapPop number tick) s =
                  if top.number = number then
                    .next (({ s.advance tick with sns := ⟨below, s.sns.nextNumber⟩ }).replied 0xC2 .ok
                      [u4 number, u1 below.length])
                  else .next ((s.advance tick).replied 0xC2 .conflict [u4 top.number])

/-- STATUS, READ_TRACK, READ_TSA, READ_INDICATORS, READ_GRID, READ_REGIME, READ_ICE and READ_ITEMS answer from the state as it
stands, each with the whole reply here, and change nothing else. How marks are carried, how an unknown O_1 or P_mean of the last
evaluation record is carried, and the widths of fields without a stated range are the model's choices (assumption 12), and so is a
rate too wide for its field (assumption 3); a rate whose divisor is 0 is a free value (assumption 1), an empty baseline is carried
as 0 (assumption 24), and the p and c that READ_TRACK shows outside LOCKED and HOLDOVER are those that no rule has reset (assumption
19). -/
def Obligations.ReadsChangeNothing : Prop :=
  ∀ (s : State) (tick : Tick), s.ServesAtOnce →
    let power := u1 (if s.gra.power.isSome then 0 else 1) :: optional 2 (s.gra.power.map KnownPower.pkw)
    exec (.status tick) s =
        .next ((s.advance tick).replied 0x82 .ok
          ([u1 s.trk.tl.lock.code, u1 s.trk.th.lock.code, u1 s.trk.tg.lock.code, u1 s.rgc.regime.val, u1 s.rgc.active.val,
              u1 s.skd.mode.code, u1 s.icm.state.code, mark s.icm.icestop, u1 s.alt.records.length, mark s.alt.overflow,
              mark s.alt.attn, u1 s.sns.stack.length, mark s.sst.inFlight.isSome, mark s.sst.pendingWrite,
              mark s.sst.lastFailed, mark s.sst.loadedValid, u4 s.clk.deviceSeconds, mark s.clk.farm.isSome]
            ++ optionalNat 4 s.clk.farm))
      ∧ (∀ raw, 3 ≤ raw → exec (.readTrack raw tick) s = .next ((s.advance tick).replied 0x91 .badValue []))
      ∧ (∀ ch : Channel,
          let t := s.track ch
          let quotient (a b : Nat) : Nat := if b = 0 then Config.quotientByZero a else a / b
          t.rate ch =
              (if t.lock.following = false then 0
              else if ch = .tg then quotient 2000000000 (t.tprev.getD 0)
              else (t.lastTicks.map (quotient 12000000000)).getD 0)
            ∧ exec (.readTrack (channelNumber ch) tick) s =
                .next ((s.advance tick).replied 0x91 .ok
                  ([u1 t.lock.code, u1 t.c, u1 t.p] ++ optionalNat 4 t.tprev
                    ++ [u4 (rateOnLine (t.rate ch)), u4 t.closedCount, u2 t.stallCount] ++ t.settings.fields
                    ++ optionalGroup t.staged.isSome (t.staged.getD t.settings).fields)))
      ∧ (∀ (va : Fin 6) start count, 1 ≤ count → count ≤ 64 →
          let v := s.sav.get va
          let standing :=
            [u1 va.val, u1 (ownerNumber v.owner), u2 v.samples, u2 v.n, u1 v.settings.k, mark (decide (2 ^ v.settings.k ≤ v.n)),
              u2 v.counts.accepted, u2 v.counts.virtual, u2 v.counts.unsteady, u2 v.counts.clipped, u2 v.counts.held,
              u1 v.clipRun, u1 start, u1 count]
          exec (.readTsa va.val start count tick) s =
            if v.n = 0 then .next ((s.advance tick).replied 0x9A .empty standing)
            else if v.samples < start + count then .next ((s.advance tick).replied 0x9A .badValue [])
            else .next ((s.advance tick).replied 0x9A .ok
              (standing ++ (((v.acc.take v.samples).drop start).take count).map fun a => i2 (a / 256))))
      ∧ (∀ input start count, 6 ≤ input ∨ count = 0 ∨ 64 < count →
          exec (.readTsa input start count tick) s = .next ((s.advance tick).replied 0x9A .badValue []))
      ∧ (∀ va : Fin 6,
          let i := s.ind.get va
          let standing :=
            (i.levels.list.flatMap fun l => [u1 l.level.rank, u1 l.rise, u1 l.fall]) ++ [u2 i.dropped, u1 s.rgc.active.val]
          exec (.readIndicators va.val tick) s =
            match i.set with
            | none => .next ((s.advance tick).replied 0x9B .empty standing)
            | some t =>
              .next ((s.advance tick).replied 0x9B .ok
                (standing ++ [u4 t.revNumber, u2 t.samples, u2 t.n, mark t.warm] ++ t.orders.list.map u1
                  ++ (allIndices.flatMap fun j => (t.values.get j).fields j.val)
                  ++ ((s.row s.rgc.active va).levels.list.flatMap fun p => [u2 p.warn, u2 p.alarm])
                  ++ [u1 (s.row s.rgc.active va).persistence])))
      ∧ (∀ raw, 6 ≤ raw → exec (.readIndicators raw tick) s = .next ((s.advance tick).replied 0x9B .badValue []))
      ∧ (∀ g : Fin 6,
          let i := s.gra.inputs.get g
          let limitFields (l : LimitState) := [mark l.exceeded, u1 l.exceedRun, u1 l.withinRun]
          let standing :=
            [u1 s.trk.tg.lock.code, u4 (s.trk.tg.rate .tg)] ++ power
              ++ [u4 s.gra.energy, ⟨8, s.gra.remainder⟩, u4 s.gra.blockCount, u2 s.gra.counts.accepted, u2 s.gra.counts.virtual,
                u2 s.gra.counts.unsteady, u2 s.gra.counts.held, mark (decide (gridInputOf g ∈ s.scanList .tg))]
              ++ limitFields i.thd ++ optionalGroup (g.val < 3) (limitFields i.harmonic ++ optionalNat 1 i.harmonic.named)
          exec (.readGrid (g.val + 6) tick) s =
            match s.gra.last, i.result with
            | some b, some r =>
              .next ((s.advance tick).replied 0xA1 .ok
                (standing ++ [u4 b.number, u4 b.elapsed, u1 b.accepted, u2 b.rejected, mark b.clipped, mark r.noFund]
                  ++ optional 2 b.pkw ++ [u2 r.thd] ++ r.hb.map u4))
            | _, _ => .next ((s.advance tick).replied 0xA1 .empty standing))
      ∧ (∀ raw, raw < 6 ∨ 12 ≤ raw → exec (.readGrid raw tick) s = .next ((s.advance tick).replied 0xA1 .badValue []))
      ∧ (let regime :=
          [u1 s.rgc.regime.val, u1 s.rgc.active.val]
            ++ optionalGroup s.rgc.candidate.isSome
              [u1 ((s.rgc.candidate.map fun d => d.regime.val).getD 0), u1 ((s.rgc.candidate.map Candidate.count).getD 0)]
            ++ power ++ [u1 s.trk.tl.lock.code] ++ s.rgc.settings.breakpoints.list.map u2
            ++ s.rgc.settings.map.list.map fun r => u1 r.val
        exec (.readRegime none tick) s =
            .next ((s.advance tick).replied 0xAA .ok (regime ++ u1 0 :: (List.replicate 16 (u2 0) ++ [u1 0])))
          ∧ ∀ (profile : Fin 8) (va : Fin 6),
              exec (.readRegime (some ⟨profile.val, va.val⟩) tick) s =
                .next ((s.advance tick).replied 0xAA .ok
                  (regime ++ u1 1 :: (((s.row profile va).levels.list.flatMap fun p => [u2 p.warn, u2 p.alarm])
                    ++ [u1 (s.row profile va).persistence]))))
      ∧ (∀ profile va, 8 ≤ profile ∨ 6 ≤ va →
          exec (.readRegime (some ⟨profile, va⟩) tick) s = .next ((s.advance tick).replied 0xAA .badValue []))
      ∧ (let m := s.icm
        let left (e : Tick) : Nat := secondsLeft e (max s.now tick)
        let expiry : Option Tick := match m.tThaw with | .running e => some e | .stopped | .elapsed => none
        let evaluation (r : EvalRecord) : List Field :=
          [u4 r.deviceSeconds, u1 (criterionCode r.cold), u1 (criterionCode r.deficit), u1 (criterionCode r.imbalance)]
            ++ optionalGroup r.power.isSome
              [i2 ((r.power.map MeanPower.pmean).getD 0), u4 ((r.power.map MeanPower.blocks).getD 0)]
            ++ optionalNat 2 r.o1 ++ optional 2 r.expected ++ [u1 r.regime.val, mark r.learned]
        exec (.readIce tick) s =
          .next ((s.advance tick).replied 0xB3 .ok
            ([u1 m.state.code, mark m.icestop, u1 m.e1, u1 m.e2] ++ optionalNat 1 (m.runKind.map RunKind.code)
              ++ [u1 (bit m.tConfirm.isSome)] ++ optionalNat 2 (m.tConfirm.map left)
              ++ [u1 m.tThaw.code] ++ optionalNat 2 (expiry.map left)
              ++ (match m.ambient with
                | some a =>
                  [u1 1, i2 a.temperature, ⟨1, a.humidity⟩, ⟨2, a.wind⟩,
                    u2 (min 65535 ((max s.now tick - a.receivedAt) / 2000000) : Nat), mark a.fresh]
                | none => [u1 0, i2 0, ⟨1, 0⟩, ⟨2, 0⟩, u2 0, u1 0])
              ++ optional 2 (if 2 ≤ m.curve.length then m.ambient.map fun a => expectedPower m.curve a.wind else none)
              ++ [u2 m.baseline, u2 m.learnedCount, mark (decide (16 ≤ m.learnedCount))]
              ++ optionalGroup m.lastEval.isSome (evaluation (m.lastEval.getD ⟨0, none, none, none, none, none, none, 0, false⟩))
              ++ [u2 ((m.nextEval.map left).getD 0)]
              ++ [i2 m.settings.tice, u1 m.settings.hice, u2 m.settings.powerMargin, u2 m.settings.imbalanceMargin,
                u2 m.settings.period, u2 m.settings.tConfirm, u2 m.settings.tThaw, u1 m.settings.iceInput.val]
              ++ u1 m.curve.length :: m.curve.flatMap fun p => [u2 p.wind, u2 p.power])))
      ∧ ([.off, .acquiring, .locked, .holdover, .stalled].map LockState.code = [0, 1, 2, 3, 4]
        ∧ [.clear, .watch, .suspect, .iced, .thaw].map IcingState.code = [0, 1, 2, 3, 4]
        ∧ [.normal, .service, .test].map ServiceMode.code = [0, 1, 2] ∧ [.normal, .warn, .alarm].map Level.rank = [0, 1, 2]
        ∧ [.unused, .running, .dueSoon, .due, .overdue].map ItemState.rank = [0, 1, 2, 3, 4]
        ∧ [some true, some false, none].map criterionCode = [0, 1, 2] ∧ [.confirm, .clear].map RunKind.code = [0, 1]
        ∧ ∀ e, [.stopped, .running e, .elapsed].map ThawTimer.code = [0, 1, 2])
      ∧ (∀ width v, optional width v = [⟨1, if v.isSome then 1 else 0⟩, ⟨width, v.getD 0⟩])
      ∧ (∀ t : TrackSettings,
          t.fields =
            [⟨1, if t.enable then 0 else 1⟩, ⟨1, if t.edge = .rising then 0 else 1⟩, ⟨1, t.z⟩, ⟨2, t.n⟩, ⟨4, t.tmin⟩, ⟨4, t.tmax⟩,
              ⟨2, t.filter⟩])
      ∧ (∀ it : Item,
          let basis : Nat :=
            match it.basis with
            | .none => 0 | .operating => 1 | .revolutions => 2 | .energy => 3 | .damage => 4 | .ice => 5 | .calendar => 6
          let source : Nat :=
            match it.source with
            | .none => 255 | .va i => i.val | .channel .tl => 0 | .channel .th => 1 | .channel .tg => 2
          it.fields =
            [⟨2, it.tag⟩, ⟨1, basis⟩, ⟨1, source⟩, ⟨4, it.interval⟩, ⟨4, it.lead⟩, ⟨4, it.accrued⟩, ⟨1, it.state.rank⟩]
              ++ optionalNat 4 it.calendarStart ++ optionalNat 4 it.lastDone ++ [⟨2, it.doneCount⟩])
      ∧ (∀ (i : Fin 8) (v : IndValue),
          v.fields i.val =
            match v with
            | .value x => (if i.val < 4 then [] else [⟨1, 0⟩]) ++ [⟨if i = 2 then 1 else 2, x⟩]
            | .unused => [⟨1, 1⟩, ⟨2, 0⟩]
            | .absent => [⟨1, 2⟩, ⟨2, 0⟩])
      ∧ ∀ first count,
          exec (.readItems first count tick) s =
            if first ≤ 15 ∧ 1 ≤ count ∧ count ≤ 8 ∧ first + count ≤ 16 then
              .next ((s.advance tick).replied 0xBA .ok
                ([u1 s.skd.mode.code] ++ optionalNat 2 (s.skd.hold.map fun e => secondsLeft e (max s.now tick))
                  ++ [u1 (s.skd.train.getD 0), u1 s.skd.lastTrain, mark s.clk.farm.isSome]
                  ++ ((s.msc.list.drop first).take count).flatMap Item.fields))
            else .next ((s.advance tick).replied 0xBA .badValue [])

/-- SAVE starts a write with a copy of the contents, or joins or creates the pending one, and stays served; RESET is answered OK and
later frames are discarded. Nothing else changes. The contents are the settings in force, the items without their states, the
baseline and the icing state, where WATCH and SUSPECT are written as CLEAR. -/
def Obligations.SaveAndResetAreServed : Prop :=
  ∀ (s : State) (tick : Tick), s.ServesAtOnce →
    (s.sst.inFlight = none →
        exec (.save tick) s =
          .next ({ s.advance tick with
              sst := { s.sst with inFlight := some ⟨s.contents, max s.now tick⟩ }
              lnk := { s.lnk with order := s.lnk.order ++ [(⟨none, false⟩ : Place)], serving := some .inFlight } }).kick)
      ∧ (s.sst.inFlight.isSome →
          exec (.save tick) s =
            .next ({ s.advance tick with
                sst := { s.sst with pendingWrite := true }
                lnk := { s.lnk with order := s.lnk.order ++ [(⟨none, false⟩ : Place)], serving := some .pending } }).kick)
      ∧ exec (.reset tick) s =
          .next ({ s.advance tick with
              lnk := { s.lnk with order := s.lnk.order ++ [(⟨some ⟨0xC9, .ok, []⟩, true⟩ : Place)], reset := .served } }).kick
      ∧ s.contents =
          { track := ⟨s.trk.tl.settings, s.trk.th.settings, s.trk.tg.settings⟩
            scan := s.acq.table
            inputs := Tab.ofFn fun va => (s.sav.get va).settings
            grid := s.gra.settings
            regime := s.rgc.settings
            ice := s.icm.settings
            curve := s.icm.curve
            items := Tab.ofFn fun slot =>
              let it := s.msc.get slot
              ⟨it.tag, it.basis, it.source, it.interval, it.lead, it.accrued, it.calendarStart, it.lastDone, it.doneCount⟩
            baseline := s.icm.baseline
            learnedCount := s.icm.learnedCount
            icing := match s.icm.state with | .clear | .watch | .suspect => .clear | .iced => .iced | .thaw => .thaw }

/-! ### Supply and start-up (chapter 11) -/

/-- POWER_ON starts time and device seconds at 0 and starts the part up from the image, which a write cut short has made bad;
RESET_BEGIN, once the RESET is replied to and no write is left, starts it up again with time and device seconds going on. Both load
the image when it is valid and the defaults otherwise, then with a STORE_DEFAULTS alert, every other field at its reset value, while
the levels of the lines, KEY's among them, stand. The model's choices here: a POWER_ON of a part with supply loses it first and ends
a break (assumption 14); one step ends after step 4 of start-up, with enabled channels in ACQUIRING, ICESTOP at the icing state, and
an alert that carries no mode flag (assumption 18); empty records hold 0 (assumption 5), and so does the empty baseline of the
defaults (assumption 24); no rise of KEY is known (assumption 23); and the serial numbers begin again (assumption 16). -/
def Obligations.StartUpLoadsImageOrDefaults : Prop :=
  (∀ s : State,
      exec .powerOn s =
          .next (({ s with
            now := 0, clk := ⟨0, 2000000, none⟩, lnk := { s.lnk with lineLow := false } }).startedUp
              (if s.sst.inFlight.isSome then .bad else s.sst.image))
        ∧ ∀ tick,
            (s.phase = .running → s.lnk.reset = .replied → s.sst.inFlight = none → s.sst.pendingWrite = false →
                exec (.resetBegin tick) s = .next ((s.advance tick).startedUp s.sst.image))
              ∧ (s.phase ≠ .running ∨ s.lnk.reset ≠ .replied ∨ s.sst.inFlight.isSome ∨ s.sst.pendingWrite = true →
                  exec (.resetBegin tick) s = .next s))
    ∧ Image.defaults =
        { track :=
            ⟨⟨true, .rising, 1, 256, 2000000, 40000000, 2000⟩, ⟨true, .rising, 1, 256, 60000, 1200000, 200⟩,
              ⟨true, .rising, 1, 64, 30770, 44444, 400⟩⟩
          scan := Image.defaults.scan
          inputs := Tab.replicate 6 ⟨4, ⟨[1, 2, 3, 4], rfl⟩⟩
          grid := ⟨Tab.replicate 24 0, 80, 0, 0⟩
          regime :=
            ⟨⟨[50, 300, 800, 1300, 1800, 2300], rfl⟩, Tab.ofFn fun r => r,
              Tab.replicate 8 (Tab.replicate 6 ⟨Tab.replicate 8 ⟨0, 0⟩, 3⟩)⟩
          ice := ⟨10, 85, 150, 300, 30, 1200, 1800, 0⟩
          curve := []
          items := Tab.replicate 16 ⟨0, .none, .none, 0, 0, 0, none, none, 0⟩
          baseline := 0
          learnedCount := 0
          icing := .clear }
    ∧ Image.defaults.scan.starts = ⟨some 0, some 2, some 6⟩
    ∧ Image.defaults.scan.entries.list =
        (List.range 24).map fun k =>
          ⟨([.va 0, .va 1, .va 2, .va 3, .va 4, .va 5, .gv 0, .gv 1, .gv 2, .gi 0, .gi 1, .gi 2] : List Input)[k]?,
            decide (k = 1 ∨ k = 5 ∨ k = 11)⟩

/-- STARTUP_END lets ATTN follow the list, starts the evaluation clock and a restored THAW's T_thaw, waits for a rise of a KEY that
is low, and starts the autosave count. POWER_LOSS leaves only the image, bad when a write was in flight; what the model holds in its
place without supply is its own choice: the values of a blank start-up at time 0, every channel OFF, no break (assumption 14), and
free levels of the output lines (assumption 2). In start-up and without supply, and where the state fixes no instant for it, an
event that falls due leaves the part as it is; and an end of what is not under way lets time go on and does nothing else (assumption
6). -/
def Obligations.StartupEndsAndPowerIsLost : Prop :=
  ∀ (s : State) (tick : Tick),
    (s.phase = .startup →
        exec (.startupEnd tick) s =
          .next { s with
            phase := .running, now := max s.now tick, alt := { s.alt with attn := decide (s.alt.records ≠ []) }
            icm := { s.icm with
              nextEval := some (max s.now tick + s.icm.settings.period * 2000000)
              tThaw :=
                if s.icm.state = .thaw then .running (max s.now tick + s.icm.settings.tThaw * 2000000) else s.icm.tThaw }
            skd := { s.skd with awaitRise := s.skd.low }, sst := { s.sst with autosave := 0 } })
      ∧ (s.phase ≠ .startup → exec (.startupEnd tick) s = .next s)
      ∧ (s.phase ≠ .off →
          let u := ({ s with now := 0, clk := ⟨0, 2000000, none⟩, lnk := { s.lnk with lineLow := false } }).startedUp .blank
          let left : StoredImage := if s.sst.inFlight.isSome then .bad else s.sst.image
          exec (.powerLoss tick) s =
            .next { u with
              phase := .off
              trk := u.trk.map fun k => { k with lock := .off }
              icm := { u.icm with icestop := Config.unpoweredLine 0 }
              alt := ⟨[], 1, false, Config.unpoweredLine 1⟩
              sst := ⟨left, none, false, false, match left with | .valid _ => true | .blank | .bad => false, 0⟩ })
      ∧ (s.phase = .off → exec (.powerLoss tick) s = .next s)
      ∧ (∀ (ch : Channel) (code : Code),
          let k := s.track ch
          let timed := k.deadlineFrom.isSome && k.tprev.isSome
          let due : List (Bool × Instr) :=
            [(k.transition.isSome, .countedEdge ch), (decide (k.lock = .locked) && timed, .virtualEdge ch),
              (decide (k.lock = .holdover) && timed, .holdoverDeadline ch),
              (k.strobes.any fun r => decide (r.next < r.count), .strobe ch),
              (s.acq.converter.isSome, .conversionComplete code), (s.gra.power.isSome, .powerFreshnessExpiry),
              (s.icm.ambient.any Ambient.fresh, .ambientStale), (s.icm.nextEval.isSome, .iceEvaluation),
              (decide (s.icm.state = .suspect) && s.icm.tConfirm.isSome, .tConfirmExpiry),
              (decide (s.icm.state = .thaw) && (match s.icm.tThaw with | .running _ => true | .stopped | .elapsed => false),
                .tThawExpiry),
              (s.skd.low && s.skd.fellAt.isSome, .keyLongLow),
              (!s.skd.low && s.skd.train.isSome && s.skd.roseAt.isSome, .trainEnd), (s.skd.hold.isSome, .holdExpiry),
              (decide (s.lnk.receiver ≠ .hunting), .frameTimeout)]
          ∀ d ∈ due, s.phase ≠ .running ∨ d.1 = false → exec d.2 s = .next s)
      ∧ ∀ (va : Fin 6) (success : Bool),
          let ends : List (Bool × Instr) :=
            [((s.ind.get va).computing.isSome, .indicatorComputationEnd va tick),
              (s.lnk.sending.isSome && !s.lnk.order.isEmpty, .replySent tick),
              (s.sst.inFlight.isSome, .storeWriteComplete success tick)]
          ∀ e ∈ ends,
            (s.phase = .startup ∨ s.phase = .running ∧ e.1 = false → exec e.2 s = .next (s.advance tick))
              ∧ (s.phase = .off → exec e.2 s = .next s)

/-! ### Tracking (chapter 1) -/

/-- A transition of the chosen polarity enters the filter of a running part's channel that is not OFF; a return before the filter
ticks have passed drops it; nothing else changes. In start-up pulses are not taken: only the line's level follows, and without
supply too (assumption 14). -/
def Obligations.PulseEntersFilter : Prop :=
  ∀ (s : State) (ch : Channel) (high : Bool) (tick : Tick),
    let t := s.track ch
    let follows := s.trk.set ch { t with line := high }
    (s.phase = .running →
        (t.line = high → exec (.pulseTransition ch high tick) s = .next (s.advance tick))
          ∧ (t.line ≠ high →
              exec (.pulseTransition ch high tick) s =
                .next { s.advance tick with
                  trk := s.trk.set ch { t with
                    line := high
                    transition :=
                      if t.lock = .off then none
                      else if (t.settings.edge = .rising ↔ high = true) then some ⟨max s.now tick, t.settings.filter⟩
                      else t.transition.filter fun x => x.seenAt + x.filter ≤ max s.now tick } }))
      ∧ (s.phase = .startup → exec (.pulseTransition ch high tick) s = .next { s.advance tick with trk := follows })
      ∧ (s.phase = .off → exec (.pulseTransition ch high tick) s = .next { s with trk := follows })

/-- A counted edge in STALLED, or in ACQUIRING without a reference, becomes the reference; in ACQUIRING with one it ends an interval
and, while the consistency count stays below 4, only the count, Tprev and the reference change. That an interval
of exactly 4,294,967,295 ticks counts as saturated, so that the count becomes 0, is the model's choice (assumption 22). -/
def Obligations.AcquiringCountsConsistentIntervals : Prop :=
  ∀ (s : State) (ch : Channel) (x : Transition),
    let t := s.track ch
    s.phase = .running → t.transition = some x →
      (t.lock = .stalled →
          exec (.countedEdge ch) s =
            .next { s.advance (x.seenAt + x.filter) with
              trk := s.trk.set ch { t with transition := none, lock := .acquiring, c := 0, ref := some x.seenAt } })
        ∧ (t.lock = .acquiring → t.ref = none →
            exec (.countedEdge ch) s =
              .next { s.advance (x.seenAt + x.filter) with
                trk := s.trk.set ch { t with transition := none, ref := some x.seenAt } })
        ∧ ∀ ref, t.lock = .acquiring → t.ref = some ref →
            let i := min 4294967295 (x.seenAt - ref)
            t.countThrough i < 4 →
              exec (.countedEdge ch) s =
                .next { s.advance (x.seenAt + x.filter) with
                  trk := s.trk.set ch
                    { t with transition := none, c := t.countThrough i, tprev := some i, ref := some x.seenAt } }

/-- The edge that brings the consistency count to 4 locks the channel: a revolution opens at it with pulse index 0 and no flags, the
TSA records of its list are cleared when Z is above 1, its inputs start gathering, its strobes start with strobe 0, which is taken
as any strobe is, and TL's lock makes the regime IDLING without a candidate. -/
def Obligations.FourthIntervalLocks : Prop :=
  ∀ (s : State) (ch : Channel) (x : Transition) (ref : Tick),
    let k := s.track ch
    let i := min 4294967295 (x.seenAt - ref)
    let now := max s.now (x.seenAt + x.filter)
    let cleared : State :=
      { s with
        sav := Tab.ofFn fun va =>
          if 1 < k.settings.z ∧ va ∈ s.vaList ch then (s.sav.get va).emptied s else s.sav.get va }
    s.phase = .running → k.transition = some x → k.lock = .acquiring → k.ref = some ref → 4 ≤ k.countThrough i →
      ∃ t, exec (.countedEdge ch) s = .next t
        ∧ t = { s with
            now := now, sav := t.sav, ind := t.ind, rgc := t.rgc
            acq := { s.acq with scans := t.acq.scans, converter := t.acq.converter }, gra := { s.gra with inputs := t.gra.inputs }
            trk := s.trk.set ch { k with
              lock := .locked, transition := none, c := k.countThrough i, p := 0, tprev := some i, ref := some x.seenAt
              deadlineFrom := some now, lastTicks := none, nextSerial := k.nextSerial + 1
              rev := some ⟨⟨ch, k.nextSerial⟩, k.settings.n, false, false, 0, x.seenAt⟩
              strobes := some ⟨now, i, k.settings.n / k.settings.z, 0, 1⟩ } }
        ∧ TakesStrobe (cleared.gatheringFor ⟨ch, k.nextSerial⟩) t ch ⟨ch, k.nextSerial⟩ 0 k.settings.n
        ∧ (ch = .tl → EntersRegime s t 1) ∧ (ch ≠ .tl → t.rgc = s.rgc ∧ t.ind = s.ind)

/-- An edge that a channel which follows pulses takes inside a revolution: the index advances, the interval joins the revolution
with its flags, the deadline is counted from the edge, and its strobes start with the first slot of the interval, which is taken as
any strobe is while a revolution is open; nothing beyond the sampling changes. -/
def Obligations.EdgeInsideRevolution : Prop :=
  ∀ (s : State) (ch : Channel) (c : Instr) (e : EdgeTaken),
    let k := s.track ch
    s.phase = .running → EdgeComes s ch c e → k.nextIndex ≠ 0 →
      ∃ t, exec c s = .next t
        ∧ t = { s with
            now := e.taking, trk := s.trk.set ch (k.edgeInside e), acq := { s.acq with
              scans := t.acq.scans, converter := t.acq.converter }, sav := t.sav, gra := { s.gra with inputs := t.gra.inputs } }
        ∧ (∀ r, k.rev = some r → TakesStrobe s t ch r.id (k.nextIndex * (k.settings.n / k.settings.z)) r.samples)
        ∧ (k.rev = none → t.acq = s.acq ∧ t.sav = s.sav ∧ t.gra = s.gra)

/-- An edge at which the index returns to 0 closes the open revolution, whose tick length becomes the channel's measure of speed,
and opens the next. Strobe 0 comes first, taken as any strobe is; then the closed revolution is handed on, to the averager then the
REVOLUTIONS items of its shaft (that order, and the inputs' in list order, by assumption 11) or to the grid analyzer as one cycle;
then staged settings are applied, which leave the channel in its state with the new N or take it to ACQUIRING or OFF (a change of N
and edge together clears the records too: assumption 21). Without an open revolution, after a SET_SCAN, the edge only opens one. -/
def Obligations.EdgeClosesRevolution : Prop :=
  ∀ (s : State) (ch : Channel) (c : Instr) (e : EdgeTaken),
    let k := s.track ch
    let fresh : Option RevBuffer := some ⟨⟨ch, k.nextSerial⟩, [], 0⟩
    s.phase = .running → EdgeComes s ch c e → k.nextIndex = 0 →
      (∀ r, k.rev = some r →
          ∃ u t, exec c s = .next t
            ∧ u = { s with
                now := e.taking, trk := u.trk, sav := u.sav, gra := { s.gra with inputs := u.gra.inputs }
                acq := { s.acq with scans := u.acq.scans, converter := u.acq.converter } }
            ∧ (∀ o, o ≠ ch → u.track o = s.track o)
            ∧ TakesStrobe s u ch ⟨ch, k.nextSerial⟩ 0 (k.staged.getD k.settings).n
            ∧ (let h := u.handRevolution ch (r.after e) ((k.closedCount + 1) % 4294967296) e.time
              let kept := ∀ new ∈ k.staged, k.settings.keepsLock new
              let clears := ∃ new ∈ k.staged, k.settings.recuts new
              t = { s with
                  now := e.taking, sav := t.sav, ind := t.ind, rgc := t.rgc, icm := h.icm, msc := h.msc, alt := h.alt, sns := h.sns
                  trk := s.trk.set ch
                    (match k.staged with
                    | none => k.edgeClosing ch r e
                    | some new => k.edgeApplying ch r e new)
                  acq := { s.acq with scans := t.acq.scans, converter := t.acq.converter }
                  gra := { h.gra with inputs := t.gra.inputs, block := if ch = .tg ∧ ¬kept then none else h.gra.block } }
                ∧ (∀ va,
                    let v := if va ∈ s.vaList ch ∧ clears then (h.sav.get va).emptied t else h.sav.get va
                    t.sav.get va =
                      { v with buffer := if ch ≠ .tg ∧ va ∈ s.vaList ch then (if kept then fresh else none) else v.buffer })
                ∧ (∀ g,
                    let i := h.gra.inputs.get g
                    t.gra.inputs.get g =
                      { i with buffer := if ch = .tg ∧ g ∈ s.present then (if kept then fresh else none) else i.buffer })
                ∧ (ch = .tl ∧ ¬kept → EntersRegime h t 0) ∧ (ch ≠ .tl ∨ kept → t.rgc = h.rgc ∧ t.ind = h.ind)
                ∧ (kept → t.acq = u.acq) ∧ (¬kept → AbandonsScan u t ch)
                ∧ (ch ≠ .tg →
                    h =
                        ((s.vaList ch).foldl (State.closeInput (r.after e) ((k.closedCount + 1) % 4294967296)) u).itemsCounted
                          (addedTo (fun it => it.basis = .revolutions ∧ it.source = .channel ch) 1)
                      ∧ h.gra = u.gra ∧ h.rgc = s.rgc ∧ h.icm = s.icm ∧ h.sns = s.sns
                      ∧ ∀ slot,
                          (h.msc.get slot).accrued =
                            if (s.msc.get slot).basis = .revolutions ∧ (s.msc.get slot).source = .channel ch then
                              min 4294967295 ((s.msc.get slot).accrued + 1)
                            else (s.msc.get slot).accrued)
                ∧ (ch = .tg → h = u.closeCycle (r.after e) e.time ∧ h.sav = u.sav)))
        ∧ (k.rev = none →
            ∃ t, exec c s = .next t
              ∧ t = { s with
                  now := e.taking, trk := s.trk.set ch (k.edgeOpening ch e), sav := t.sav
                  acq := { s.acq with scans := t.acq.scans, converter := t.acq.converter }
                  gra := { s.gra with inputs := t.gra.inputs } }
              ∧ TakesStrobe (s.gatheringFor ⟨ch, k.nextSerial⟩) t ch ⟨ch, k.nextSerial⟩ 0 k.settings.n)

/-- In LOCKED, an interval outside the window drops the channel to ACQUIRING: its revolution is discarded, the edge becomes the
reference, TL's loss makes the regime PARKED, TG's loses its open block and raises GRID_RANGE with the frequency of the interval and
of the limit crossed, and then staged settings are applied as to an ACQUIRING channel. That an interval of exactly 4,294,967,295
ticks counts as saturated is the model's choice (assumption 22), the frequency of an interval of 0 is a free value within the
alert's bound (assumption 1), that alerts come after the regime's change is assumption 11, and that the channel keeps its pulse
index is assumption 19. -/
def Obligations.EdgeOutsideWindowLosesLock : Prop :=
  ∀ (s : State) (ch : Channel) (x : Transition) (ref : Tick),
    let k := s.track ch
    let i := min 4294967295 (x.seenAt - ref)
    let dropped : Track :=
      { k with
        lock := .acquiring, transition := none, c := 0, ref := some x.seenAt, tprev := some i, rev := none, strobes := none
        deadlineFrom := none }
    s.phase = .running → k.lock = .locked → k.transition = some x → k.ref = some ref →
      (i < k.settings.tmin ∨ k.settings.tmax < i ∨ i = 4294967295) →
        ∃ t, exec (.countedEdge ch) s = .next t
          ∧ t = { s with
              now := max s.now (x.seenAt + x.filter), acq := t.acq, sav := t.sav, ind := t.ind, gra := t.gra, rgc := t.rgc
              alt := t.alt
              trk := s.trk.set ch (match k.staged with | none => dropped | some new => dropped.settled new) }
          ∧ LeavesLock s t ch k.staged ∧ (ch ≠ .tg → t.alt = s.alt)
          ∧ (ch = .tg → k.settings.tmin = 30770 → k.settings.tmax = 44444 →
              t.alt = (s.raise ⟨.gridRange, .warn, .channel .tg, none,
                some (min 4294967295 (if i = 0 then Config.quotientByZero 2000000000 else 2000000000 / i) : Nat),
                some (if i < 30770 then 64998 else 45000), .absent⟩).alt)

/-- The deadline in HOLDOVER: the channel stalls, keeping Tprev and its index (the index by assumption 19); its revolution is
discarded, the stall is counted, TRACK_LOST is raised, NOTE for TL and TH and WARN for TG, and staged settings are applied as to a
STALLED channel. TL's stall makes the regime PARKED before the alert is stamped (assumption 11). -/
def Obligations.HoldoverDeadlineStalls : Prop :=
  ∀ (s : State) (ch : Channel) (d prev : Nat),
    let k := s.track ch
    let stalled : Track :=
      { k with
        lock := .stalled, ref := none, rev := none, strobes := none, deadlineFrom := none
        stallCount := min 65535 (k.stallCount + 1) }
    s.phase = .running → k.lock = .holdover → k.deadlineFrom = some d → k.tprev = some prev →
      ∃ t, exec (.holdoverDeadline ch) s = .next t
        ∧ t = { s with
            now := max s.now (d + 3 * prev / 2), acq := t.acq, sav := t.sav, ind := t.ind, gra := t.gra, rgc := t.rgc, alt := t.alt
            trk := s.trk.set ch (match k.staged with | none => stalled | some new => stalled.settled new) }
        ∧ LeavesLock s t ch k.staged
        ∧ t.alt = (({ s with rgc := t.rgc }).raise
            ⟨.trackLost, if ch = Channel.tg then .warn else .note, .channel ch, none, none, none, .absent⟩).alt

/-! ### Acquisition (chapter 2) -/

/-- A strobe fires floor(j × Tprev / S) ticks after its edge. Without a scan list or an open revolution it does nothing more;
otherwise a scan still pending ends by overrun, its unconverted entries held, the channel has one pending scan, of this slot, and a
converter that is free begins the entry the arbiter chooses, TG's scan before TH's before TL's, among all scans of this instant. -/
def Obligations.StrobeCreatesScan : Prop :=
  ∀ (s : State) (ch : Channel) (r : StrobeRun),
    let k := s.track ch
    let now := max s.now (r.base + r.next * r.interval / r.count)
    let fired := { s.advance now with trk := s.trk.set ch { k with strobes := some { r with next := r.next + 1 } } }
    s.phase = .running → k.strobes = some r → r.next < r.count →
      (s.scanList ch = [] ∨ k.rev = none → exec (.strobe ch) s = .next fired)
        ∧ ∀ v, k.rev = some v → s.scanList ch ≠ [] →
            ∃ t, exec (.strobe ch) s = .next t
              ∧ t = { fired with
                  acq := { s.acq with scans := t.acq.scans, converter := t.acq.converter }, sav := t.sav
                  gra := { s.gra with inputs := t.gra.inputs } }
              ∧ TakesStrobe s t ch v.id (r.firstSlot + r.next) v.samples

/-- A conversion completes 4 ticks after it began: its test value or the converter's code joins the buffer of its input when that
belongs to its revolution, clipped at either extreme, and nothing else gathers it. A scan without an entry left is complete, and the
arbiter begins the next entry of the first scan still pending, TG's before TH's before TL's, or the converter is free. -/
def Obligations.ConversionDelivers : Prop :=
  ∀ (s : State) (code : Code) (c : Conversion),
    let now := max s.now (c.began + 4)
    let v := c.test.getD code.toInt
    let filled (b : RevBuffer) : RevBuffer :=
      if c.rev = b.rev then
        ⟨b.rev, fillSlot ⟨c.slot, v, false, decide (v = -32768 ∨ v = 32767)⟩ b.slots,
          b.clipped + if v = -32768 ∨ v = 32767 then 1 else 0⟩
      else b
    s.phase = .running → s.acq.converter = some c →
      ∃ t, exec (.conversionComplete code) s = .next t
        ∧ t = { s with
            now := now, acq := { s.acq with scans := t.acq.scans, converter := t.acq.converter }, sav := t.sav
            gra := { s.gra with inputs := t.gra.inputs } }
        ∧ (∀ va,
            t.sav.get va =
              if c.input = .va va then { s.sav.get va with buffer := (s.sav.get va).buffer.map filled } else s.sav.get va)
        ∧ (∀ g,
            t.gra.inputs.get g =
              if gridIndex c.input = some g then
                { s.gra.inputs.get g with buffer := (s.gra.inputs.get g).buffer.map filled }
              else s.gra.inputs.get g)
        ∧ ArbiterActs
            (if (s.acq.scans.get c.rev.channel).any fun sc => sc.entries.length ≤ sc.position then
              s.acq.scans.set c.rev.channel none
            else s.acq.scans)
            false t

/-! ### Averaging and indicators (chapters 3 and 6) -/

/-- An accepted revolution moves each average by (256 x − A) shifted right arithmetically by the smaller of k and floor(log2(n +
1)), and n rises by 1; each new value lies between the old one and 256 x. A revolution cut at another N fills an empty record. A
close judges each input of the list by the first reason that applies, counts the verdict, follows the clip run, raises
SENSOR_SATURATED at the eighth clipped revolution in a row, and from an accepted revolution alone averages and starts, keeps waiting
or replaces the input's computation. -/
def Obligations.AverageMovesTowardRevolution : Prop :=
  (∀ (v : Sav) (values : List Int), values.length = v.samples → v.samples ≤ v.acc.length →
      let shift := min v.settings.k (Nat.log2 (v.n + 1))
      (v.updated v.samples values).n = min 65535 (v.n + 1) ∧ (v.updated v.samples values).acc.length = v.acc.length
        ∧ ∀ (i : Nat) (a x : Int), v.acc[i]? = some a → values[i]? = some x →
            ∃ a', (v.updated v.samples values).acc[i]? = some a' ∧ a' = a + (256 * x - a) / (2 ^ shift : Nat)
              ∧ min a (256 * x) ≤ a' ∧ a' ≤ max a (256 * x))
    ∧ (∀ (v : Sav) (values : List Int), values.length ≠ v.samples →
        (v.updated values.length values).n = 1 ∧ (v.updated values.length values).samples = values.length
          ∧ ∀ (i : Nat) (x : Int), values[i]? = some x → (v.updated values.length values).acc[i]? = some (256 * x))
    ∧ ∀ (s : State) (rev : OpenRev) (number : Nat) (va : Fin 6), RisingSlots (s.sav.get va).buffer →
        let v := s.sav.get va
        let gathered := gatheredFor rev.id v.buffer
        let slots := closedSlots rev.samples gathered.slots
        let verdict : Verdict :=
          if rev.virtual then .virtual
          else if rev.unsteady then .unsteady
          else if 0 < gathered.clipped then .clipped
          else if rev.samples / 32 < slots.countP SlotSample.held then .held
          else .accepted
        let counted (d : Verdict) (n : Nat) : Nat := if verdict = d then min 65535 (n + 1) else n
        let judged (w : Sav) : Sav :=
          { w with
            buffer := none, clipRun := if gathered.clipped = 0 ∨ 7 ≤ v.clipRun then 0 else v.clipRun + 1
            counts :=
              ⟨counted .accepted v.counts.accepted, counted .virtual v.counts.virtual, counted .unsteady v.counts.unsteady,
                counted .clipped v.counts.clipped, counted .held v.counts.held⟩ }
        let alt :=
          if 0 < gathered.clipped ∧ 7 ≤ v.clipRun then
            (s.raise ⟨.sensorSaturated, .warn, .input (.va va), none, some (gathered.clipped : Int), some 8, .absent⟩).alt
          else s.alt
        let raw := slots.map SlotSample.value
        let w := v.updated rev.samples raw
        let copies : Copies :=
          ⟨number, rev.samples, w.n, decide (2 ^ v.settings.k ≤ w.n), (w.acc.take rev.samples).map (· / 256), raw⟩
        let i := s.ind.get va
        s.closeInput rev number va =
          if verdict = .accepted then
            { s with
              sav := s.sav.set va (judged w), alt := alt
              ind := s.ind.set va
                (if i.computing = none then { i with computing := some ⟨copies, v.settings.orders, s.now⟩ }
                else if i.waiting = none then { i with waiting := some copies }
                else { i with waiting := some copies, dropped := min 65535 (i.dropped + 1) }) }
          else { s with sav := s.sav.set va (judged v), alt := alt }

/-- The end of a computation makes its set the input's, with the values that the formulas of the eight indicators give; moves the
level of each index that takes part against the active row, and no other; and starts the waiting computation. In NORMAL a rise to
ALARM that icing does not reclassify asks for one snapshot, of the copies the computation worked from. Each change raises VIB_LEVEL
in index order, or ICE_IMBALANCE where icing reclassifies it, with the new level's severity, NOTE in SERVICE and TEST and when
reclassified, the value, and the threshold of the level risen to or left. Then a warm set in NORMAL adds the weight of the highest
level not reclassified, 8 for ALARM and 1 for WARN, to the DAMAGE items of the input, in slot order (assumption 11); and a warm set
of ICE_INPUT hands its order 1 to icing outside TEST. -/
def Obligations.ComputationEndReplacesSet : Prop :=
  (∀ (m samples : Nat) (values : List Int),
      let index (i : Nat) : Nat := m * i * (256 / samples) % 256
      let re : Int := (values.mapIdx fun i a => a * cosine (index i)).sum
      let im : Int := (values.mapIdx fun i a => a * sine (index i)).sum
      ∃ root, IsRoot root (re * re + im * im).toNat ∧ orderAmplitude m samples values = root / (samples * 8192))
    ∧ ([0, 4, 16, 32, 64, 128, 192].map fun j => (cosine j, sine j)) =
        [(16384, 0), (16305, 1606), (15137, 6270), (11585, 11585), (0, 16384), (-16384, 0), (0, -16384)]
    ∧ (∀ j : Nat,
        cosine j = sine (j + 64) ∧ sine (j + 128) = -sine j ∧ sine (64 + j % 65) = sine (64 - j % 65) ∧ -16384 ≤ sine j
          ∧ sine j ≤ 16384)
    ∧ ∀ (s : State) (va : Fin 6) (tick : Tick) (c : Computation),
        let v := s.ind.get va
        let orders := (s.sav.get va).settings.orders
        let set := c.result
        let row := s.row s.rgc.active va
        let levels := evaluatedLevels set orders row v.levels
        let now := max s.now tick
        let squares (l : List Int) : Nat := (l.map fun a => (a * a).toNat).sum / c.copies.samples
        s.phase = .running → v.computing = some c →
          ∃ t, exec (.indicatorComputationEnd va tick) s = .next t
            ∧ t = { s with
                now := now, icm := { s.icm with gathered := t.icm.gathered }, msc := t.msc, alt := t.alt, sns := t.sns
                ind := s.ind.set va
                  ⟨some set, levels, v.waiting.map fun w => ⟨w, orders, now⟩, none, v.dropped⟩ }
            ∧ set = ⟨c.copies.revNumber, c.copies.samples, c.copies.n, c.copies.warm, c.orders, set.values⟩
            ∧ (∃ rms peak raw,
                set.values.get 0 = .value rms ∧ IsRoot rms (squares c.copies.avg)
                  ∧ set.values.get 1 = .value peak ∧ (∀ a ∈ c.copies.avg, a.natAbs ≤ peak)
                  ∧ (peak = 0 ∨ ∃ a ∈ c.copies.avg, a.natAbs = peak)
                  ∧ set.values.get 2 = .value (if rms = 0 then 0 else min 255 (16 * peak / rms))
                  ∧ set.values.get 3 = .value raw ∧ IsRoot raw (squares c.copies.raw))
            ∧ (∀ (i : Fin 8) (m : Nat), orderAt c.orders i = some m →
                set.values.get i =
                  if m = 0 then .unused
                  else if c.copies.samples / 2 ≤ m then .absent
                  else .value (min 32768 (orderAmplitude m c.copies.samples c.copies.avg)))
            ∧ (∀ i, set.warm = false ∨ set.values.get i = .unused ∨ set.values.get i = .absent
                  ∨ orderAt c.orders i ≠ orderAt orders i → levels.get i = v.levels.get i)
            ∧ (∀ i x, set.warm = true → set.values.get i = .value x → orderAt c.orders i = orderAt orders i →
                let l := v.levels.get i
                let warn := (row.levels.get i).warn
                let alarm := (row.levels.get i).alarm
                let target : Level :=
                  if alarm ≠ 0 ∧ alarm ≤ x then .alarm else if warn ≠ 0 ∧ warn ≤ x then .warn else .normal
                let falls (threshold : Nat) (below : Level) : LevelState :=
                  if threshold = 0 then ⟨below, 0, 0⟩
                  else if 7 * threshold / 8 ≤ x then ⟨l.level, 0, 0⟩
                  else if l.fall + 1 = row.persistence then ⟨below, 0, 0⟩
                  else ⟨l.level, 0, l.fall + 1⟩
                levels.get i =
                  if l.level.rank < target.rank then
                    if l.rise + 1 = row.persistence then ⟨target, 0, 0⟩ else ⟨l.level, l.rise + 1, 0⟩
                  else
                    match l.level with
                    | .normal => ⟨.normal, 0, 0⟩
                    | .warn => falls warn .normal
                    | .alarm => falls alarm .warn)
            ∧ (let before (i : Fin 8) := (v.levels.get i).level
              let after (i : Fin 8) := (levels.get i).level
              let iced (i : Fin 8) : Prop :=
                s.icm.state ∈ [.suspect, .iced, .thaw] ∧ s.icm.settings.iceInput = va ∧ orderAt orders i = some 1
              let asks (i : Fin 8) : Prop := s.skd.mode = .normal ∧ before i ≠ .alarm ∧ after i = .alarm ∧ ¬iced i
              let room := s.sns.stack.length < 6 ∧ s.sns.nextNumber ≤ 4294967295
              let of (i : Fin 8) : Level → Nat
                | .normal => 0
                | .warn => (row.levels.get i).warn
                | .alarm => (row.levels.get i).alarm
              let alert (i : Fin 8) (x : Nat) : Alert :=
                { kind := if iced i then .iceImbalance else .vibLevel
                  severity :=
                    if iced i ∨ s.skd.mode ≠ .normal then .note
                    else match after i with | .normal => .note | .warn => .warn | .alarm => .alarm
                  source := .input (.va va), sub := some i.val, detail := some (x : Int)
                  threshold := some (of i (if (before i).rank < (after i).rank then after i else before i) : Nat)
                  snapshot := if asks i then (if room then .number s.sns.nextNumber else .noSnapshot) else .absent }
              let u := s.raiseAll (([0, 1, 2, 3, 4, 5, 6, 7] : List (Fin 8)).filterMap fun i =>
                match set.values.get i with
                | .value x => if before i = after i then none else some (alert i x)
                | .unused | .absent => none)
              let counts := set.warm = true ∧ s.skd.mode = .normal
              let weight :=
                if counts ∧ ∃ i, after i = .alarm ∧ ¬iced i then 8
                else if counts ∧ ∃ i, after i = .warn ∧ ¬iced i then 1
                else 0
              let w := u.itemsCounted (addedTo (fun it => it.basis = .damage ∧ it.source = .va va) weight)
              (t.sns =
                  if (∃ i, asks i) ∧ room then
                    ⟨s.sns.stack ++
                        [⟨s.sns.nextNumber, s.clk.deviceSeconds, s.clk.farm, false, false,
                          .tsa va c.copies.avg c.copies.n c.copies.samples (s.ownerSpeed (s.sav.get va).owner) s.rgc.regime⟩],
                      s.sns.nextNumber + 1⟩
                  else s.sns)
                ∧ (weight = 0 → t.alt = u.alt ∧ t.msc = s.msc) ∧ (weight ≠ 0 → t.alt = w.alt ∧ t.msc = w.msc)
                ∧ t.icm.gathered =
                  if set.warm = true ∧ s.icm.settings.iceInput = va ∧ s.skd.mode ≠ .test ∧ 1 ∈ c.orders.list
                      ∧ 1 < c.copies.samples / 2 then
                    some ⟨min 32768 (orderAmplitude 1 c.copies.samples c.copies.avg), (s.sav.get va).owner⟩
                  else s.icm.gathered)

/-! ### Grid, regime and alerts (chapters 4, 5 and 9) -/

/-- Power becomes unknown 5 s after the last block close with power, and the candidate with it; an ambient record becomes stale 600
s after its receipt, with its alert. That a command without known power or a fresh record does nothing, and that one whose instant
has passed counts as the present, is the model's choice (assumption 6). -/
def Obligations.FreshnessExpires : Prop :=
  ∀ s : State, s.phase = .running →
    (∀ k, s.gra.power = some k →
        exec .powerFreshnessExpiry s =
          .next { s.advance (k.since + 10000000) with
            gra := { s.gra with power := none }, rgc := { s.rgc with candidate := none } })
      ∧ (s.gra.power = none → exec .powerFreshnessExpiry s = .next s)
      ∧ (∀ a, s.icm.ambient = some a → a.fresh = true →
          exec .ambientStale s =
            .next { s.advance (a.receivedAt + 1200000000) with
              icm := { s.icm with ambient := some { a with fresh := false } }
              alt := (s.raise ⟨.ambientStale, .note, .none, none, none, some 600, .absent⟩).alt })
      ∧ ((∀ a, s.icm.ambient = some a → a.fresh = false) → exec .ambientStale s = .next s)

/-- A block close with power while TL follows pulses forms the class 1 plus the breakpoints at or below P_kW; against an equal
candidate the count becomes 2 and the regime the class, and otherwise the class is the candidate with count 1. While TL does not
follow pulses it forms none. Where the active profile changes with the regime every rise and fall counter returns to 0, and the
levels stand. -/
def Obligations.EqualClassesMoveTheRegime : Prop :=
  ∀ (s : State) (pkw : Int),
    (s.trk.tl.lock.following = false → s.classify pkw = s) ∧ (s.trk.tl.lock.following = true →
    ∃ cls : Fin 8, cls.val = 1 + s.rgc.settings.breakpoints.list.countP (fun (b : Nat) => decide ((b : Int) ≤ pkw))
      ∧ ((∀ d, s.rgc.candidate = some d → d.regime ≠ cls) →
          s.classify pkw = { s with rgc := { s.rgc with candidate := some ⟨cls, 1⟩ } })
      ∧ ∀ d, s.rgc.candidate = some d → d.regime = cls →
          s.classify pkw =
            { s with
              rgc := { s.rgc with
                candidate := some ⟨cls, 2⟩, regime := cls
                active := if cls = s.rgc.regime then s.rgc.active else s.rgc.settings.map.get cls }
              ind := Tab.ofFn fun va =>
                let i := s.ind.get va
                if cls = s.rgc.regime ∨ s.rgc.settings.map.get cls = s.rgc.active then i
                else { i with levels := Tab.ofFn fun j => ⟨(i.levels.get j).level, 0, 0⟩ } })

/-- From a TG cycle to kilowatt-hours. A cycle is completed, given the first verdict that applies, counted, and joins the open
block; the tenth accepted one closes it. A closing block replaces the results, checks the limits of each present input unless it is
CLIPPED, and hands its power on. A limit state moves after three blocks in a row, with its alert and snapshot. The energy of a block
adds max(0, P_kW) × elapsed to the remainder; each whole 7,200,000,000 kW·ticks in it becomes a kWh of the total, saturating, and 1
to every ENERGY item, saturating, its state recomputed and an upward move reported; the rest stays as the remainder. That the inputs
come in the TG list's order, the harmonic state before the THD state, and a close's alerts before its class moves the regime, is
assumption 11. -/
def Obligations.EnergyBecomesKilowattHours : Prop :=
  (∀ (s : State) (rev : OpenRev) (closedAt : Tick), (∀ g, RisingSlots (s.gra.inputs.get g).buffer) →
      let slots (g : Fin 6) := closedSlots 64 (gatheredFor rev.id (s.gra.inputs.get g).buffer).slots
      let values (g : Fin 6) := (slots g).map SlotSample.value
      let verdict : Verdict :=
        if rev.virtual then .virtual
        else if rev.unsteady then .unsteady
        else if ∃ g ∈ s.present, 2 < (slots g).countP SlotSample.held then .held
        else .accepted
      let counted (d : Verdict) (n : Nat) : Nat := if verdict = d then min 65535 (n + 1) else n
      let phases : List (Fin 3) := [0, 1, 2].filter fun p => gvIndex p ∈ s.present ∧ giIndex p ∈ s.present
      let power : Int :=
        (phases.map fun p => (List.zipWith (· * ·) (values (gvIndex p)) (values (giIndex p))).sum).sum / 64
      let b := s.gra.block.getD
        ⟨0, 0, Tab.replicate 6 (List.replicate 25 0), if phases = [] then none else some 0, false, rev.openedAt⟩
      ∃ squares : Tab 6 (List Nat),
        (∀ g, (squares.get g).length = (b.squares.get g).length)
          ∧ (∀ (g : Fin 6) (m q : Nat), m < 25 → (b.squares.get g)[m]? = some q →
              (squares.get g)[m]? =
                some (if g ∈ s.present then q + orderAmplitude (m + 1) 64 (values g) ^ 2 else q))
          ∧ (let joined : OpenBlock :=
              if verdict = .accepted then
                ⟨b.accepted + 1, b.rejected, squares, b.powerSum.map (· + power),
                  b.clipped || s.present.any fun g => (slots g).any SlotSample.clipped, b.start⟩
              else { b with rejected := min 65535 (b.rejected + 1) }
            let counts := s.gra.counts
            let t := { s with
              gra := { s.gra with
                block := some joined
                counts := ⟨counted .accepted counts.accepted, counted .virtual counts.virtual,
                  counted .unsteady counts.unsteady, counted .held counts.held⟩ } }
            s.closeCycle rev closedAt =
              if verdict = .accepted ∧ 10 ≤ joined.accepted then t.closeBlock joined closedAt else t))
    ∧ (∀ (s : State) (b : OpenBlock) (closedAt : Tick),
        let number := (s.gra.blockCount + 1) % 4294967296
        let elapsed := min 4294967295 (closedAt - b.start)
        let pkw := b.powerSum.map fun (sum : Int) => max (-32768) (min 32767 (sum / 10 * s.gra.settings.kp / 1048576))
        ∃ results : Tab 6 GridResult,
          (∀ g,
              let r := results.get g
              r.hb.length = (b.squares.get g).length
                ∧ (∀ (m q : Nat), (b.squares.get g)[m]? = some q → IsRoot (r.hb.getD m 0) (q / 10))
                ∧ r.noFund = decide (r.hb.getD 0 0 = 0) ∧ (r.hb.getD 0 0 = 0 → r.thd = 0)
                ∧ (0 < r.hb.getD 0 0 →
                    ∃ root, IsRoot root ((r.hb.drop 1).map fun h => h * h).sum
                      ∧ r.thd = min 9999 (1000 * root / r.hb.getD 0 0)))
            ∧ (let stored : State :=
                { s with
                  gra := { s.gra with
                    block := none, blockCount := number
                    last := some ⟨number, elapsed, b.accepted, b.rejected, b.clipped, pkw⟩
                    inputs := Tab.ofFn fun g =>
                      if g ∈ s.present then { s.gra.inputs.get g with result := some (results.get g) }
                      else s.gra.inputs.get g } }
              s.closeBlock b closedAt =
                (if b.clipped then stored else s.present.foldl (State.checkInput results pkw) stored).handPower pkw elapsed))
    ∧ (∀ (s : State) (results : Tab 6 GridResult) (pkw : Option Int) (g : Fin 6),
        let r := results.get g
        let i := s.gra.inputs.get g
        let body := SnapBody.grid g r.hb r.thd pkw
        let limit (m : Nat) : Nat := s.gra.settings.limits.list.getD (m - 2) 0
        let perMille (m : Nat) : Nat := min 9999 (1000 * r.hb.getD (m - 1) 0 / r.hb.getD 0 0)
        let exceeds (m : Nat) : Prop := limit m ≠ 0 ∧ limit m * r.hb.getD 0 0 < r.hb.getD (m - 1) 0 * 1000
        let thdLimit := if g.val < 3 then s.gra.settings.voltageThd else s.gra.settings.currentThd
        ∃ worst : Option Nat,
          (worst = none → ∀ m, 2 ≤ m → m ≤ 25 → ¬exceeds m)
            ∧ (∀ w, worst = some w →
                2 ≤ w ∧ w ≤ 25 ∧ exceeds w
                  ∧ ∀ m, 2 ≤ m → m ≤ 25 → exceeds m → perMille m < perMille w ∨ perMille m = perMille w ∧ w ≤ m)
            ∧ (let harmonic := if g.val < 3 then i.harmonic.checked worst.isSome worst else i.harmonic
              let named := (if harmonic.exceeded then harmonic.named else i.harmonic.named)
              let thd := i.thd.checked (decide (thdLimit ≠ 0 ∧ thdLimit < r.thd)) none
              s.checkInput results pkw g =
                if r.noFund then s
                else
                  (({ s with gra := { s.gra with inputs := s.gra.inputs.set g { i with harmonic := harmonic, thd := thd } }
                    }).reported i.harmonic.exceeded harmonic.exceeded g .gridHarmonic named (perMille (named.getD 0))
                      (limit (named.getD 0)) body).reported i.thd.exceeded thd.exceeded g .gridThd none r.thd thdLimit body))
    ∧ (∀ (l : LimitState) (exceeds : Bool) (worst : Option Nat),
        l.checked exceeds worst =
          if exceeds = l.exceeded then
            if exceeds then { l with withinRun := 0 } else { l with exceedRun := 0 }
          else if exceeds then
            if 2 ≤ l.exceedRun then ⟨true, 0, 0, worst⟩ else { l with exceedRun := l.exceedRun + 1 }
          else if 2 ≤ l.withinRun then ⟨false, 0, 0, none⟩
          else { l with withinRun := l.withinRun + 1 })
    ∧ ∀ (s : State) (pkw : Int) (elapsed : Nat),
        let sum := s.gra.remainder + (max 0 pkw).toNat * elapsed
        let t := s.addEnergy pkw elapsed
        t =
            { Nat.repeat (fun u => u.itemsCounted (addedTo (fun it => it.basis = .energy) 1)) (sum / 7200000000) s with
              gra := { s.gra with
                remainder := sum % 7200000000
                energy := min 4294967295 (s.gra.energy + sum / 7200000000) } }
          ∧ (∀ slot, (s.msc.get slot).accrued ≤ 4294967295 →
              (t.msc.get slot).accrued =
                if (s.msc.get slot).basis = .energy then min 4294967295 ((s.msc.get slot).accrued + sum / 7200000000)
                else (s.msc.get slot).accrued)
          ∧ s.handPower none elapsed = s
          ∧ s.handPower (some pkw) elapsed =
              { t with
                gra := { t.gra with power := some ⟨pkw, s.now⟩ }, rgc := (s.classify pkw).rgc, ind := (s.classify pkw).ind
                icm := { s.icm with powerSum := s.icm.powerSum + pkw, powerCount := s.icm.powerCount + 1 } }

/-- An alert takes the regime, the clocks and the mode of its instant, joins the list and lets ATTN follow. One that matches a
record merges into it in its place; otherwise it joins a list of fewer than 32 with the next sequence number; at 32 the oldest NOTE
makes room, or for an ALARM the oldest WARN, and otherwise the alert is dropped. -/
def Obligations.AlertsMergeJoinEvictOrDrop : Prop :=
  (∀ (s : State) (a : Alert),
      let placed := s.alt.place
        ⟨0, a.kind, a.severity, a.source, a.sub, a.detail, a.threshold, s.rgc.regime, s.clk.deviceSeconds, s.clk.farm, 1,
          decide (s.skd.mode = .service), decide (s.skd.mode = .test), a.snapshot⟩
      s.raise a = { s with alt := { placed with attn := decide (s.phase = .running ∧ placed.records ≠ []) } })
    ∧ ∀ (l : Alt) (a : AlertRecord), l.records.length ≤ 32 → l.nextSeq ≤ 4294967295 → a.repeats = 1 →
      let next := if l.nextSeq = 4294967295 then 0 else l.nextSeq + 1
      (∀ before r after, l.records = before ++ r :: after → r.same a = true → (∀ q ∈ before ++ after, q.same a = false) →
          l.place a = { l with
            records := before ++ { a with
              seq := r.seq, kind := r.kind, source := r.source, sub := r.sub, repeats := min 255 (r.repeats + 1)
              snapshot := if a.snapshot = .absent then r.snapshot else a.snapshot } :: after })
        ∧ ((∀ q ∈ l.records, q.same a = false) →
            (l.records.length < 32 →
              l.place a = { l with records := l.records ++ [{ a with seq := l.nextSeq, repeats := 1 }], nextSeq := next })
              ∧ (l.records.length = 32 →
                  (∀ before r after, l.records = before ++ r :: after →
                      (r.severity = .note ∧ (∀ q ∈ before, q.severity ≠ .note)
                        ∨ a.severity = .alarm ∧ r.severity = .warn ∧ (∀ q ∈ before ++ after, q.severity ≠ .note)
                          ∧ (∀ q ∈ before, q.severity ≠ .warn)) →
                        l.place a = { l with
                          records := before ++ after ++ [{ a with seq := l.nextSeq, repeats := 1 }], nextSeq := next
                          overflow := true })
                    ∧ ((∀ q ∈ l.records, q.severity = .alarm ∨ a.severity ≠ .alarm ∧ q.severity = .warn) →
                        l.place a = { l with overflow := true })))

/-! ### The clock and icing (chapters 7 and 10) -/

/-- At a device second the clocks advance, OPERATING items accrue 1 while the regime is above PARKED, CALENDAR items recount, states
recomputed and upward moves reported, first OPERATING then CALENDAR and each in slot order (assumption 11), and every 3,600th
requests a write, whose copy is taken after the accruals (the autosave comes last by assumption 11); during start-up only the clocks
advance, and without supply nothing does. -/
def Obligations.DeviceSecondAdvances : Prop :=
  ∀ s : State,
    let clk : Clock := ⟨(s.clk.deviceSeconds + 1) % 4294967296, s.clk.nextSecond + 2000000,
      s.clk.farm.map fun f => (f + 1) % 4294967296⟩
    let ticked : State := { s with clk := clk }
    let operated : State :=
      if 1 ≤ s.rgc.regime.val then ticked.itemsCounted (addedTo (fun it => it.basis = .operating) 1) else ticked
    let counted := operated.itemsCounted (calendarCount clk.farm)
    (s.phase = .running →
        ∃ t, exec .deviceSecond s = .next t
          ∧ t = { counted with now := max s.now s.clk.nextSecond, sst := t.sst }
          ∧ (∀ slot,
              let it := s.msc.get slot
              (t.msc.get slot).accrued =
                if it.basis = .operating ∧ 1 ≤ s.rgc.regime.val then min 4294967295 (it.accrued + 1)
                else if it.basis = .calendar then
                  match clk.farm, it.calendarStart with
                  | some farm, some start => farm - start
                  | _, _ => it.accrued
                else it.accrued)
          ∧ (s.sst.autosave + 1 < 3600 → t.sst = { s.sst with autosave := s.sst.autosave + 1 })
          ∧ (3600 ≤ s.sst.autosave + 1 → s.sst.inFlight = none →
              t.sst = { s.sst with autosave := 0, inFlight := some ⟨t.contents, max s.now s.clk.nextSecond⟩ })
          ∧ (3600 ≤ s.sst.autosave + 1 → s.sst.inFlight.isSome → t.sst = { s.sst with autosave := 0, pendingWrite := true }))
      ∧ (s.phase = .startup →
          exec .deviceSecond s = .next { s with now := max s.now s.clk.nextSecond, clk := clk })
      ∧ (s.phase = .off → exec .deviceSecond s = .next s)

/-- The expected power on a valid curve. -/
def Obligations.ExpectedPowerFollowsCurve : Prop :=
  ∀ (points : List CurvePoint) (w : Int), 2 ≤ points.length → points.Pairwise (fun p q => p.wind < q.wind) →
    (∀ p ∈ points.head?, w < p.wind → expectedPower points w = 0)
      ∧ (∀ p ∈ points.getLast?, (p.wind : Int) ≤ w → expectedPower points w = p.power)
      ∧ (∀ before a b after, points = before ++ a :: b :: after → (a.wind : Int) ≤ w → w < b.wind →
          expectedPower points w =
            a.power + ((b.power : Int) - a.power) * (w - a.wind) / ((b.wind : Int) - a.wind))
      ∧ ((∀ p ∈ points, p.power ≤ 32767) → 0 ≤ expectedPower points w ∧ expectedPower points w ≤ 32767)

/-- The criteria and what they are judged on: the temperature and COLD from a fresh record alone, the mean of the gathered power,
the order-1 amplitude of an input that TL owns outside TEST, DEFICIT against the expected power where every cause is known, and
IMBALANCE against a baseline learned 16 times or more. An evaluation empties both gatherings, records its criteria, falls again one
period later, and moves the state as its table gives, or the evidence counts while the state stays. SUSPECT starts T_confirm and
THAW starts T_thaw; entry to ICED from SUSPECT is a new icing event, a re-entry from THAW raises ICE_STATE WARN and THAW's end NOTE,
each with a store write, and no other move reports anything; and the baseline learns only in CLEAR with COLD false from regime 2 up.
The order within an icing event is assumption 11. -/
def Obligations.EvaluationMovesTheIcingState : Prop :=
  (∀ (s : State) (o1 : Option Nat),
      let m := s.icm
      let fresh : Option Ambient := m.ambient.filter fun a => a.fresh
      let inRange (wind : Int) : Prop := ∃ p ∈ m.curve.head?, ∃ q ∈ m.curve.getLast?, (p.wind : Int) ≤ wind ∧ wind ≤ q.wind
      m.knownTemperature = fresh.map (fun a => a.temperature)
        ∧ m.cold = fresh.map (fun a => decide (a.temperature ≤ m.settings.tice ∧ (m.settings.hice : Int) ≤ a.humidity))
        ∧ m.meanPower = (if m.powerCount = 0 then none else some ⟨m.powerSum / (m.powerCount : Int), m.powerCount⟩)
        ∧ m.evaluatedO1 s.skd.mode =
          (m.gathered.filter fun g => decide (g.owner = some .tl ∧ s.skd.mode ≠ .test)).map (fun g => g.value)
        ∧ s.deficitExpected =
          (fresh.bind fun a =>
            if 2 ≤ s.rgc.regime.val ∧ s.gra.power.isSome ∧ m.powerCount ≠ 0 ∧ 2 ≤ m.curve.length ∧ inRange a.wind then
              some (expectedPower m.curve a.wind)
            else none)
        ∧ s.deficit =
          (s.deficitExpected.map fun x =>
            decide (m.powerSum / (m.powerCount : Int) * 1000 < x * (1000 - (m.settings.powerMargin : Int))))
        ∧ m.imbalance o1 =
          (if m.learnedCount < 16 then none
          else o1.map fun v => decide (m.baseline * (1000 + m.settings.imbalanceMargin) < v * 1000)))
    ∧ ∀ (s : State) (due : Tick),
      let m := s.icm
      let o1 := m.evaluatedO1 s.skd.mode
      let imbalance := m.imbalance o1
      let state := m.stateAfter m.cold s.deficit imbalance m.knownTemperature
      let now := max s.now due
      let evidence : Prop := s.deficit = some true ∨ imbalance = some true
      let confirms : Prop := s.deficit = some true ∧ imbalance = some true
      let clears : Prop := s.deficit = some false ∧ imbalance = some false
      let run (kind : RunKind) : Nat := if m.runKind = some kind then m.e2 + 1 else 1
      s.phase = .running → m.nextEval = some due →
        ∃ t, exec .iceEvaluation s = .next t
          ∧ t = { s with now := now, icm := t.icm, msc := t.msc, alt := t.alt, sns := t.sns, sst := t.sst }
          ∧ t.icm.state = state ∧ t.icm.powerSum = 0 ∧ t.icm.powerCount = 0 ∧ t.icm.gathered = none
          ∧ t.icm.nextEval = some (due + m.settings.period * 2000000) ∧ t.icm.settings = m.settings ∧ t.icm.curve = m.curve
          ∧ t.icm.ambient = m.ambient
          ∧ t.icm.lastEval =
              some ⟨s.clk.deviceSeconds, m.cold, s.deficit, imbalance, m.meanPower, o1, s.deficitExpected, s.rgc.regime,
                decide (m.state = .clear ∧ m.cold = some false ∧ 2 ≤ s.rgc.regime.val ∧ o1.isSome)⟩
          ∧ (state = m.state →
              t.icm.icestop = m.icestop ∧ t.icm.tConfirm = m.tConfirm ∧ t.icm.tThaw = m.tThaw
                ∧ (m.state = .watch →
                    t.icm.e1 = (if m.cold = some true then (if evidence then m.e1 + 1 else 0) else m.e1) ∧ t.icm.e2 = m.e2
                      ∧ t.icm.runKind = m.runKind)
                ∧ (m.state = .suspect →
                    t.icm.e1 = m.e1 ∧ t.icm.e2 = (if confirms then run .confirm else if clears then run .clear else 0)
                      ∧ t.icm.runKind = if confirms then some .confirm else if clears then some .clear else none)
                ∧ (m.state ≠ .watch → m.state ≠ .suspect →
                    t.icm.e1 = m.e1 ∧ t.icm.e2 = m.e2 ∧ t.icm.runKind = m.runKind))
          ∧ (state ≠ m.state →
              t.icm.e1 = 0 ∧ t.icm.e2 = 0 ∧ t.icm.runKind = none ∧ t.icm.icestop = state.stops
                ∧ t.icm.tConfirm = (if state = .suspect then some (now + m.settings.tConfirm * 2000000) else
                    if state = .thaw then m.tConfirm else none)
                ∧ t.icm.tThaw = (if state = .thaw then .running (now + m.settings.tThaw * 2000000) else
                    if state = .suspect then m.tThaw else .stopped))
          ∧ (m.state = .suspect → state = .iced → IcingEvent s t now)
          ∧ (m.state = .thaw → state ≠ .thaw →
              t.alt = (s.raise ⟨.iceState, if state = .iced then .warn else .note, .none, none, m.knownTemperature,
                  some m.settings.tice, .absent⟩).alt
                ∧ t.sst = (if s.sst.inFlight.isSome then { s.sst with pendingWrite := true }
                  else { s.sst with inFlight := some ⟨t.contents, now⟩ })
                ∧ t.msc = s.msc ∧ t.sns = s.sns)
          ∧ (state = m.state ∨ m.state = .clear ∨ m.state = .watch ∨ m.state = .iced ∨ state = .watch →
              t.alt = s.alt ∧ t.sst = s.sst ∧ t.msc = s.msc ∧ t.sns = s.sns)
          ∧ (m.state = .clear → m.cold = some false → 2 ≤ s.rgc.regime.val → ∀ v, o1 = some v →
              t.icm.learnedCount = min 65535 (m.learnedCount + 1)
                ∧ t.icm.baseline =
                  if m.learnedCount = 0 then v else ((m.baseline : Int) + ((v : Int) - m.baseline) / 16).toNat)
          ∧ (m.state ≠ .clear ∨ m.cold ≠ some false ∨ s.rgc.regime.val < 2 ∨ o1 = none →
              t.icm.learnedCount = m.learnedCount ∧ t.icm.baseline = m.baseline)

/-- T_confirm's expiry in SUSPECT returns to WATCH when COLD is false and otherwise enters ICED as a new icing event: ICESTOP is
asserted, ICE_STATE ALARM raised, 1 accrued into every ICE item and a write requested, in the order of assumption 11. T_thaw's
expiry in THAW moves to CLEAR with fresh ambient above Tice and otherwise leaves the timer elapsed. -/
def Obligations.IcingTimersExpire : Prop :=
  ∀ (s : State) (due : Tick),
    let now := max s.now due
    let entering (st : IcingState) : Icm :=
      { s.icm with
        state := st, icestop := st.stops, e1 := 0, e2 := 0, runKind := none, tConfirm := none, tThaw := .stopped }
    s.phase = .running →
      (s.icm.state = .suspect → s.icm.tConfirm = some due →
          (s.icm.cold = some false → exec .tConfirmExpiry s = .next { s.advance due with icm := entering .watch })
            ∧ (s.icm.cold ≠ some false →
                ∃ t, exec .tConfirmExpiry s = .next t
                  ∧ t = { s with now := now, msc := t.msc, alt := t.alt, sns := t.sns, sst := t.sst, icm := entering .iced }
                  ∧ IcingEvent s t now))
        ∧ (s.icm.state = .thaw → s.icm.tThaw = .running due →
            (∀ temperature, s.icm.knownTemperature = some temperature → s.icm.settings.tice < temperature →
                ∃ t, exec .tThawExpiry s = .next t
                  ∧ t = { s with now := now, alt := t.alt, sst := t.sst, icm := entering .clear }
                  ∧ t.alt = (s.raise ⟨.iceState, .note, .none, none, some temperature, some s.icm.settings.tice,
                      .absent⟩).alt
                  ∧ t.sst = (if s.sst.inFlight.isSome then { s.sst with pendingWrite := true }
                    else { s.sst with inFlight := some ⟨t.contents, now⟩ }))
              ∧ ((∀ temperature, s.icm.knownTemperature = some temperature → temperature ≤ s.icm.settings.tice) →
                  exec .tThawExpiry s = .next { s.advance due with icm := { s.icm with tThaw := .elapsed } }))

/-! ### The key (§8.4) -/

/-- KEY_FALL begins a low period and KEY_RISE judges it: below 40 ms it changes no count, from 40 ms to 1.2 s it opens a train or
raises its count, saturating at 255, and beyond 1.2 s, as KEY_LONG_LOW at the first tick beyond (assumption 20), it leaves no train
open. Nothing else changes. In start-up KEY is not watched: only its level follows, and without supply too (assumption 14). -/
def Obligations.KeyLowPeriodsAreJudged : Prop :=
  ∀ (s : State) (tick : Tick),
    (s.phase = .running →
        (s.skd.low = false →
            exec (.keyFall tick) s =
              .next { s.advance tick with
                skd := { s.skd with low := true, fellAt := if s.skd.awaitRise then none else some (max s.now tick) } })
          ∧ (s.skd.low = true → exec (.keyFall tick) s = .next (s.advance tick))
          ∧ (s.skd.low = false → exec (.keyRise tick) s = .next (s.advance tick))
          ∧ (s.skd.low = true → s.skd.fellAt = none →
              exec (.keyRise tick) s =
                .next { s.advance tick with
                  skd := { s.skd with low := false, awaitRise := false, roseAt := some (max s.now tick) } })
          ∧ ∀ f, s.skd.low = true → s.skd.fellAt = some f →
              let length := max s.now tick - f
              exec (.keyRise tick) s =
                  .next { s.advance tick with
                    skd := { s.skd with
                      low := false, awaitRise := false, fellAt := none, roseAt := some (max s.now tick)
                      train :=
                        if length < 80000 then s.skd.train
                        else if length ≤ 2400000 then
                          some (match s.skd.train with | none => 1 | some n => min 255 (n + 1))
                        else none } }
                ∧ exec .keyLongLow s = .next { s.advance (f + 2400001) with skd := { s.skd with train := none } })
      ∧ ∀ x ∈ [(Instr.keyFall tick, true), (.keyRise tick, false)],
          (s.phase = .startup → exec x.1 s = .next { s.advance tick with skd := { s.skd with low := x.2 } })
            ∧ (s.phase = .off → exec x.1 s = .next { s with skd := { s.skd with low := x.2 } })

/-- An open train ends 2 s after the last rise and moves the mode and the hold timer as its table gives; the hold timer's expiry
returns to NORMAL. A change of mode raises SERVICE_MODE with the count, 0 for the expiry, and clears every TSA record when it enters
or leaves TEST, each at the N then in force on its owner; nothing else of the averager changes, and nothing at all of it at any
other train end or expiry. -/
def Obligations.TrainsAndHoldMoveTheMode : Prop :=
  ∀ s : State, s.phase = .running →
    (∀ n rose, s.skd.low = false → s.skd.train = some n → s.skd.roseAt = some rose →
        let now := max s.now (rose + 4000000)
        let mode : ServiceMode :=
          if n = 3 then .service
          else if s.skd.mode = .normal then .normal
          else if n = 5 then .test
          else if n = 7 then .normal
          else s.skd.mode
        let acted := n = 3 ∨ s.skd.mode ≠ .normal ∧ (n = 5 ∨ n = 7)
        ∃ t, exec .trainEnd s = .next t
          ∧ t = { s with
              now := now, sav := t.sav, alt := t.alt
              skd := { s.skd with
                train := none, lastTrain := n, mode := mode
                hold := if acted then (if mode = .normal then none else some (now + 3600000000)) else s.skd.hold } }
          ∧ (mode = s.skd.mode → t.alt = s.alt)
          ∧ (mode ≠ s.skd.mode →
              t.alt = (({ s with skd := t.skd }).raise
                ⟨.serviceMode, .note, .none, none, some (n : Int), none, .absent⟩).alt)
          ∧ ∀ va,
              t.sav.get va =
                if mode ≠ s.skd.mode ∧ (mode = .test ∨ s.skd.mode = .test) then (s.sav.get va).emptied s else s.sav.get va)
      ∧ ∀ due, s.skd.hold = some due →
          ∃ t, exec .holdExpiry s = .next t
            ∧ t = { s with
                now := max s.now due, sav := t.sav, alt := t.alt, skd := { s.skd with mode := .normal, hold := none } }
            ∧ t.alt =
                (if s.skd.mode = .normal then s.alt
                else (({ s with skd := t.skd }).raise ⟨.serviceMode, .note, .none, none, some 0, none, .absent⟩).alt)
            ∧ ∀ va, t.sav.get va = if s.skd.mode = .test then (s.sav.get va).emptied s else s.sav.get va

/-! ### The line and the store (chapters 10 and 11) -/

/-- What the frame receiver does with each arrival while no break holds the line, the timeout of a frame 40,000 ticks after its last
byte (assumption 20), and the end of a break (assumption 17). A byte that does not complete a frame changes the receiver alone. The
byte that completes one leaves the receiver hunting; the frame is dropped with 16 places held or a RESET served, answered BAD_FRAME,
BAD_TYPE or BAD_LENGTH by the first check it fails, and otherwise takes its place as a request. In start-up every byte is discarded
and only a break is noticed (its end by assumption 17); without supply nothing is taken. -/
def Obligations.ReceiverActsOnEachArrival : Prop :=
  ∀ (s : State) (tick : Tick),
    (s.phase = .startup →
        (∀ b, exec (.serialByte (.byte b) tick) s = .next (s.advance tick))
          ∧ (∀ low,
              exec (.serialByte (.fault low) tick) s =
                .next { s.advance tick with lnk := { s.lnk with lineLow := s.lnk.lineLow || low } })
          ∧ exec (.lineReturnedHigh tick) s = .next { s.advance tick with lnk := { s.lnk with lineLow := false } })
      ∧ (s.phase = .off →
          (∀ a, exec (.serialByte a tick) s = .next s) ∧ exec (.lineReturnedHigh tick) s = .next s)
      ∧ (s.phase = .running →
          let now := max s.now tick
          let receives (a : Arrival) (r : Receiver) (low : Bool) : Prop :=
            exec (.serialByte a tick) s = .next { s.advance tick with lnk := { s.lnk with receiver := r, lineLow := low } }
          (s.lnk.lineLow = false →
              (∀ b, s.lnk.receiver = .hunting → receives (.byte b) (if b = 0xC3 then .receiving [] now else .hunting) false)
                ∧ (∀ b last, s.lnk.receiver = .receiving [] last →
                    receives (.byte b) (if b.toNat ≤ 250 then .receiving [b] now else .hunting) false)
                ∧ (∀ b l rest last, s.lnk.receiver = .receiving (l :: rest) last → rest.length + 2 < l.toNat + 4 →
                    receives (.byte b) (.receiving (l :: rest ++ [b]) now) false)
                ∧ (∀ b l rest last, s.lnk.receiver = .receiving (l :: rest) last → rest.length + 2 = l.toNat + 4 →
                    let frame := l :: rest ++ [b]
                    let body := frame.take (l.toNat + 2)
                    let type := natAt body 1 1
                    let payload := body.drop 2
                    let u := { s.advance tick with lnk := { s.lnk with receiver := .hunting } }
                    let known : Prop :=
                      type ∈ [0x01, 0x02, 0x03, 0x10, 0x11, 0x12, 0x18, 0x19, 0x1A, 0x1B, 0x20, 0x21, 0x28, 0x29, 0x2A, 0x30, 0x31,
                        0x32, 0x33, 0x34, 0x38, 0x39, 0x3A, 0x40, 0x41, 0x42, 0x48, 0x49]
                    (16 ≤ s.lnk.order.length ∨ s.lnk.reset ≠ .none → exec (.serialByte (.byte b) tick) s = .next u)
                      ∧ (s.lnk.order.length < 16 → s.lnk.reset = .none →
                          (crcBytes body ≠ frame.drop (l.toNat + 2) →
                              exec (.serialByte (.byte b) tick) s = .next (u.replied 0xFF .badFrame []))
                            ∧ (crcBytes body = frame.drop (l.toNat + 2) →
                                (¬known → exec (.serialByte (.byte b) tick) s = .next (u.replied 0xFF .badType []))
                                  ∧ (known → allowedLength type payload ≠ some payload.length →
                                      exec (.serialByte (.byte b) tick) s = .next (u.replied (type + 0x80) .badLength []))
                                  ∧ (known → allowedLength type payload = some payload.length →
                                      ∃ r, requestOf type payload = some r
                                        ∧ exec (.serialByte (.byte b) tick) s = .next (u.submit r)))))
                ∧ ∀ low, receives (.fault low) .hunting low)
            ∧ (s.lnk.lineLow = true → ∀ a, exec (.serialByte a tick) s = .next (s.advance tick))
            ∧ (∀ gathered last, s.lnk.receiver = .receiving gathered last →
                exec .frameTimeout s = .next { s.advance (last + 40000) with lnk := { s.lnk with receiver := .hunting } })
            ∧ exec (.lineReturnedHigh tick) s = .next { s.advance tick with lnk := { s.lnk with lineLow := false } })

/-- When the reply being sent has been sent in full its place leaves the order, the RESET's own reply starts the wait for the store,
and the next reply is sent when it is ready. That a place behind the RESET's own is still sent, too, is the model's reading
(assumption 9). -/
def Obligations.ReplySentFreesItsPlace : Prop :=
  ∀ (s : State) (tick : Tick) (bytes : List Byte) (p : Place) (rest : List Place),
    s.phase = .running → s.lnk.sending = some bytes → s.lnk.order = p :: rest →
      exec (.replySent tick) s =
        .next { s.advance tick with
          lnk := { s.lnk with
            order := rest
            sending := rest.head?.bind fun q => q.reply.map Reply.bytes
            reset := if p.resets then .replied else s.lnk.reset } }

/-- A write that completes replaces the image with its copy, or on failure sets the flag and raises STORE_FAULT; a pending write
then starts with a copy of its own; and a SAVE that it serves is answered, after which the waiting request is served in the same
step, a SAVE or a RESET too. That a RESET waits behind the SAVE and is served when the SAVE's write completes is the model's reading
(assumption 9), and that STORE_FAULT is placed before a waiting request is served is the model's choice (assumption 11). -/
def Obligations.StoreWriteCompletes : Prop :=
  ∀ (s : State) (tick : Tick) (w : StoreWrite) (success : Bool), s.phase = .running → s.sst.inFlight = some w →
    let sst : Sst :=
      { s.sst with
        image := if success then .valid w.copy else s.sst.image, lastFailed := !success, pendingWrite := false
        inFlight := if s.sst.pendingWrite then some ⟨s.contents, max s.now tick⟩ else none }
    let alt := if success then s.alt else (s.raise ⟨.storeFault, .alarm, .none, none, none, none, .absent⟩).alt
    let saved : Place := ⟨some ⟨0xC8, if success then .ok else .storeFault, []⟩, false⟩
    (s.lnk.serving = none → exec (.storeWriteComplete success tick) s = .next { s.advance tick with sst := sst, alt := alt })
      ∧ (s.lnk.serving = some .pending →
          exec (.storeWriteComplete success tick) s =
            .next { s.advance tick with sst := sst, alt := alt, lnk := { s.lnk with serving := some .inFlight } })
      ∧ (∀ before after, s.lnk.serving = some .inFlight → s.lnk.waiting = none →
          s.lnk.order = before ++ (⟨none, false⟩ : Place) :: after → (∀ p ∈ before, p.reply.isSome = true) →
            exec (.storeWriteComplete success tick) s =
              .next ({ s.advance tick with
                sst := sst, alt := alt
                lnk := { s.lnk with serving := none, order := before ++ saved :: after } }).kick)
      ∧ ∀ before mid after r, s.lnk.serving = some .inFlight → s.lnk.waiting = some r →
          s.lnk.order = before ++ (⟨none, false⟩ : Place) :: mid ++ (⟨none, false⟩ : Place) :: after →
            (∀ p ∈ before ++ mid, p.reply.isSome = true) →
              let ordered (p : Place) : List Place := before ++ saved :: mid ++ p :: after
              let u :=
                { s.advance tick with
                  sst := sst, alt := alt, lnk := { s.lnk with serving := none, waiting := none, order := ordered ⟨none, false⟩ } }
              exec (.storeWriteComplete success tick) s =
                .next
                  (match r with
                  | .save =>
                    { u with
                      sst :=
                        if sst.inFlight.isSome then { sst with pendingWrite := true }
                        else { sst with inFlight := some ⟨s.contents, max s.now tick⟩ }
                      lnk := { u.lnk with serving := some (if sst.inFlight.isSome then .pending else .inFlight) } }
                  | .reset =>
                    { u with lnk := { u.lnk with order := ordered ⟨some ⟨0xC9, .ok, []⟩, true⟩, reset := .served } }
                  | r =>
                    { (u.answer r).1 with
                      lnk := { u.lnk with
                        order := ordered
                          ⟨some ⟨requestType r + 0x80, (u.answer r).2.status, (u.answer r).2.fields⟩, false⟩ } }).kick
end

