-- ==== Sys2Proof/Laws/Tab.lean ====
section
/-! SUPPORT. Reading after writing in the tables of `n` entries and in the values held for each channel. -/

namespace Sys2Proof

namespace Tab

variable {α β : Type} {n : Nat}

theorem ext_get {t u : Tab n α} (h : ∀ i, t.get i = u.get i) : t = u := by
  obtain ⟨l, hl⟩ := t
  obtain ⟨m, hm⟩ := u
  have : l = m := List.ext_getElem (hl.trans hm.symm) fun i hi _ => h ⟨i, hl ▸ hi⟩
  subst this; rfl

@[simp] theorem get_set_self (t : Tab n α) (i : Fin n) (x : α) : (t.set i x).get i = x := by simp [get, set]

theorem get_set_ne (t : Tab n α) {i j : Fin n} (x : α) (h : i ≠ j) : (t.set i x).get j = t.get j := by
  simp [get, set, Fin.val_ne_of_ne h]

theorem get_set (t : Tab n α) (i j : Fin n) (x : α) : (t.set i x).get j = if i = j then x else t.get j := by
  by_cases h : i = j
  · subst h; simp
  · simp [h, get_set_ne t x h]

@[simp] theorem get_ofFn (f : Fin n → α) (i : Fin n) : (ofFn f).get i = f i := by simp [get, ofFn]

@[simp] theorem get_map (f : α → β) (t : Tab n α) (i : Fin n) : (t.map f).get i = f (t.get i) := by simp [get, map]

@[simp] theorem get_replicate (x : α) (i : Fin n) : (replicate n x).get i = x := by simp [get, replicate]

@[simp] theorem set_get_self (t : Tab n α) (i : Fin n) : t.set i (t.get i) = t :=
  ext_get fun j => by by_cases h : i = j <;> simp [get_set, h]

@[simp] theorem set_set (t : Tab n α) (i : Fin n) (x y : α) : (t.set i x).set i y = t.set i y :=
  ext_get fun j => by by_cases h : i = j <;> simp [get_set, h]

end Tab

namespace PerChannel

variable {α : Type}

@[simp] theorem get_set_self (t : PerChannel α) (ch : Channel) (x : α) : (t.set ch x).get ch = x := by cases ch <;> rfl

theorem get_set_ne (t : PerChannel α) {ch o : Channel} (x : α) (h : o ≠ ch) : (t.set ch x).get o = t.get o := by
  cases ch <;> cases o <;> first | rfl | exact absurd rfl h

theorem get_set (t : PerChannel α) (ch o : Channel) (x : α) : (t.set ch x).get o = if o = ch then x else t.get o := by
  by_cases h : o = ch
  · subst h; simp
  · simp [h, get_set_ne t x h]

@[simp] theorem set_set (t : PerChannel α) (ch : Channel) (x y : α) : (t.set ch x).set ch y = t.set ch y := by cases ch <;> rfl

@[simp] theorem set_get_self (t : PerChannel α) (ch : Channel) : t.set ch (t.get ch) = t := by cases ch <;> rfl

theorem ext_get {t u : PerChannel α} (h : ∀ ch, t.get ch = u.get ch) : t = u := by
  obtain ⟨a, b, c⟩ := t
  obtain ⟨a', b', c'⟩ := u
  have h1 := h .tl; have h2 := h .th; have h3 := h .tg
  simp_all [get]

end PerChannel

end Sys2Proof
end

