-- ==== Sys2Proof/Laws/State.lean ====
section
/-! SUPPORT. What each update of the state does to each of its fields: one lemma per field per update, so that no later proof
unfolds a record update. -/

namespace Sys2Proof.Machine

/-! ### setTrack -/

@[simp] theorem State.setTrack_phase (s : State) (ch : Channel) (t : Track) : (s.setTrack ch t).phase = s.phase := rfl
@[simp] theorem State.setTrack_now (s : State) (ch : Channel) (t : Track) : (s.setTrack ch t).now = s.now := rfl
@[simp] theorem State.setTrack_trk (s : State) (ch : Channel) (t : Track) : (s.setTrack ch t).trk = s.trk.set ch t := rfl
@[simp] theorem State.setTrack_acq (s : State) (ch : Channel) (t : Track) : (s.setTrack ch t).acq = s.acq := rfl
@[simp] theorem State.setTrack_sav (s : State) (ch : Channel) (t : Track) : (s.setTrack ch t).sav = s.sav := rfl
@[simp] theorem State.setTrack_ind (s : State) (ch : Channel) (t : Track) : (s.setTrack ch t).ind = s.ind := rfl
@[simp] theorem State.setTrack_gra (s : State) (ch : Channel) (t : Track) : (s.setTrack ch t).gra = s.gra := rfl
@[simp] theorem State.setTrack_rgc (s : State) (ch : Channel) (t : Track) : (s.setTrack ch t).rgc = s.rgc := rfl
@[simp] theorem State.setTrack_icm (s : State) (ch : Channel) (t : Track) : (s.setTrack ch t).icm = s.icm := rfl
@[simp] theorem State.setTrack_msc (s : State) (ch : Channel) (t : Track) : (s.setTrack ch t).msc = s.msc := rfl
@[simp] theorem State.setTrack_skd (s : State) (ch : Channel) (t : Track) : (s.setTrack ch t).skd = s.skd := rfl
@[simp] theorem State.setTrack_alt (s : State) (ch : Channel) (t : Track) : (s.setTrack ch t).alt = s.alt := rfl
@[simp] theorem State.setTrack_sns (s : State) (ch : Channel) (t : Track) : (s.setTrack ch t).sns = s.sns := rfl
@[simp] theorem State.setTrack_lnk (s : State) (ch : Channel) (t : Track) : (s.setTrack ch t).lnk = s.lnk := rfl
@[simp] theorem State.setTrack_clk (s : State) (ch : Channel) (t : Track) : (s.setTrack ch t).clk = s.clk := rfl
@[simp] theorem State.setTrack_sst (s : State) (ch : Channel) (t : Track) : (s.setTrack ch t).sst = s.sst := rfl
@[simp] theorem State.setTrack_pending (s : State) (ch : Channel) (t : Track) : (s.setTrack ch t).pending = s.pending := rfl

/-! ### setSav -/

@[simp] theorem State.setSav_phase (s : State) (i : Fin 6) (v : Sav) : (s.setSav i v).phase = s.phase := rfl
@[simp] theorem State.setSav_now (s : State) (i : Fin 6) (v : Sav) : (s.setSav i v).now = s.now := rfl
@[simp] theorem State.setSav_trk (s : State) (i : Fin 6) (v : Sav) : (s.setSav i v).trk = s.trk := rfl
@[simp] theorem State.setSav_acq (s : State) (i : Fin 6) (v : Sav) : (s.setSav i v).acq = s.acq := rfl
@[simp] theorem State.setSav_sav (s : State) (i : Fin 6) (v : Sav) : (s.setSav i v).sav = s.sav.set i v := rfl
@[simp] theorem State.setSav_ind (s : State) (i : Fin 6) (v : Sav) : (s.setSav i v).ind = s.ind := rfl
@[simp] theorem State.setSav_gra (s : State) (i : Fin 6) (v : Sav) : (s.setSav i v).gra = s.gra := rfl
@[simp] theorem State.setSav_rgc (s : State) (i : Fin 6) (v : Sav) : (s.setSav i v).rgc = s.rgc := rfl
@[simp] theorem State.setSav_icm (s : State) (i : Fin 6) (v : Sav) : (s.setSav i v).icm = s.icm := rfl
@[simp] theorem State.setSav_msc (s : State) (i : Fin 6) (v : Sav) : (s.setSav i v).msc = s.msc := rfl
@[simp] theorem State.setSav_skd (s : State) (i : Fin 6) (v : Sav) : (s.setSav i v).skd = s.skd := rfl
@[simp] theorem State.setSav_alt (s : State) (i : Fin 6) (v : Sav) : (s.setSav i v).alt = s.alt := rfl
@[simp] theorem State.setSav_sns (s : State) (i : Fin 6) (v : Sav) : (s.setSav i v).sns = s.sns := rfl
@[simp] theorem State.setSav_lnk (s : State) (i : Fin 6) (v : Sav) : (s.setSav i v).lnk = s.lnk := rfl
@[simp] theorem State.setSav_clk (s : State) (i : Fin 6) (v : Sav) : (s.setSav i v).clk = s.clk := rfl
@[simp] theorem State.setSav_sst (s : State) (i : Fin 6) (v : Sav) : (s.setSav i v).sst = s.sst := rfl
@[simp] theorem State.setSav_pending (s : State) (i : Fin 6) (v : Sav) : (s.setSav i v).pending = s.pending := rfl

/-! ### setInd -/

@[simp] theorem State.setInd_phase (s : State) (i : Fin 6) (v : Ind) : (s.setInd i v).phase = s.phase := rfl
@[simp] theorem State.setInd_now (s : State) (i : Fin 6) (v : Ind) : (s.setInd i v).now = s.now := rfl
@[simp] theorem State.setInd_trk (s : State) (i : Fin 6) (v : Ind) : (s.setInd i v).trk = s.trk := rfl
@[simp] theorem State.setInd_acq (s : State) (i : Fin 6) (v : Ind) : (s.setInd i v).acq = s.acq := rfl
@[simp] theorem State.setInd_sav (s : State) (i : Fin 6) (v : Ind) : (s.setInd i v).sav = s.sav := rfl
@[simp] theorem State.setInd_ind (s : State) (i : Fin 6) (v : Ind) : (s.setInd i v).ind = s.ind.set i v := rfl
@[simp] theorem State.setInd_gra (s : State) (i : Fin 6) (v : Ind) : (s.setInd i v).gra = s.gra := rfl
@[simp] theorem State.setInd_rgc (s : State) (i : Fin 6) (v : Ind) : (s.setInd i v).rgc = s.rgc := rfl
@[simp] theorem State.setInd_icm (s : State) (i : Fin 6) (v : Ind) : (s.setInd i v).icm = s.icm := rfl
@[simp] theorem State.setInd_msc (s : State) (i : Fin 6) (v : Ind) : (s.setInd i v).msc = s.msc := rfl
@[simp] theorem State.setInd_skd (s : State) (i : Fin 6) (v : Ind) : (s.setInd i v).skd = s.skd := rfl
@[simp] theorem State.setInd_alt (s : State) (i : Fin 6) (v : Ind) : (s.setInd i v).alt = s.alt := rfl
@[simp] theorem State.setInd_sns (s : State) (i : Fin 6) (v : Ind) : (s.setInd i v).sns = s.sns := rfl
@[simp] theorem State.setInd_lnk (s : State) (i : Fin 6) (v : Ind) : (s.setInd i v).lnk = s.lnk := rfl
@[simp] theorem State.setInd_clk (s : State) (i : Fin 6) (v : Ind) : (s.setInd i v).clk = s.clk := rfl
@[simp] theorem State.setInd_sst (s : State) (i : Fin 6) (v : Ind) : (s.setInd i v).sst = s.sst := rfl
@[simp] theorem State.setInd_pending (s : State) (i : Fin 6) (v : Ind) : (s.setInd i v).pending = s.pending := rfl

/-! ### setItem -/

@[simp] theorem State.setItem_phase (s : State) (i : Fin 16) (v : Item) : (s.setItem i v).phase = s.phase := rfl
@[simp] theorem State.setItem_now (s : State) (i : Fin 16) (v : Item) : (s.setItem i v).now = s.now := rfl
@[simp] theorem State.setItem_trk (s : State) (i : Fin 16) (v : Item) : (s.setItem i v).trk = s.trk := rfl
@[simp] theorem State.setItem_acq (s : State) (i : Fin 16) (v : Item) : (s.setItem i v).acq = s.acq := rfl
@[simp] theorem State.setItem_sav (s : State) (i : Fin 16) (v : Item) : (s.setItem i v).sav = s.sav := rfl
@[simp] theorem State.setItem_ind (s : State) (i : Fin 16) (v : Item) : (s.setItem i v).ind = s.ind := rfl
@[simp] theorem State.setItem_gra (s : State) (i : Fin 16) (v : Item) : (s.setItem i v).gra = s.gra := rfl
@[simp] theorem State.setItem_rgc (s : State) (i : Fin 16) (v : Item) : (s.setItem i v).rgc = s.rgc := rfl
@[simp] theorem State.setItem_icm (s : State) (i : Fin 16) (v : Item) : (s.setItem i v).icm = s.icm := rfl
@[simp] theorem State.setItem_msc (s : State) (i : Fin 16) (v : Item) : (s.setItem i v).msc = s.msc.set i v := rfl
@[simp] theorem State.setItem_skd (s : State) (i : Fin 16) (v : Item) : (s.setItem i v).skd = s.skd := rfl
@[simp] theorem State.setItem_alt (s : State) (i : Fin 16) (v : Item) : (s.setItem i v).alt = s.alt := rfl
@[simp] theorem State.setItem_sns (s : State) (i : Fin 16) (v : Item) : (s.setItem i v).sns = s.sns := rfl
@[simp] theorem State.setItem_lnk (s : State) (i : Fin 16) (v : Item) : (s.setItem i v).lnk = s.lnk := rfl
@[simp] theorem State.setItem_clk (s : State) (i : Fin 16) (v : Item) : (s.setItem i v).clk = s.clk := rfl
@[simp] theorem State.setItem_sst (s : State) (i : Fin 16) (v : Item) : (s.setItem i v).sst = s.sst := rfl
@[simp] theorem State.setItem_pending (s : State) (i : Fin 16) (v : Item) : (s.setItem i v).pending = s.pending := rfl

/-! ### setGridInput -/

@[simp] theorem State.setGridInput_phase (s : State) (g : Fin 6) (v : GridInput) : (s.setGridInput g v).phase = s.phase := rfl
@[simp] theorem State.setGridInput_now (s : State) (g : Fin 6) (v : GridInput) : (s.setGridInput g v).now = s.now := rfl
@[simp] theorem State.setGridInput_trk (s : State) (g : Fin 6) (v : GridInput) : (s.setGridInput g v).trk = s.trk := rfl
@[simp] theorem State.setGridInput_acq (s : State) (g : Fin 6) (v : GridInput) : (s.setGridInput g v).acq = s.acq := rfl
@[simp] theorem State.setGridInput_sav (s : State) (g : Fin 6) (v : GridInput) : (s.setGridInput g v).sav = s.sav := rfl
@[simp] theorem State.setGridInput_ind (s : State) (g : Fin 6) (v : GridInput) : (s.setGridInput g v).ind = s.ind := rfl
@[simp] theorem State.setGridInput_gra (s : State) (g : Fin 6) (v : GridInput) :
    (s.setGridInput g v).gra = { s.gra with inputs := s.gra.inputs.set g v } := rfl
@[simp] theorem State.setGridInput_rgc (s : State) (g : Fin 6) (v : GridInput) : (s.setGridInput g v).rgc = s.rgc := rfl
@[simp] theorem State.setGridInput_icm (s : State) (g : Fin 6) (v : GridInput) : (s.setGridInput g v).icm = s.icm := rfl
@[simp] theorem State.setGridInput_msc (s : State) (g : Fin 6) (v : GridInput) : (s.setGridInput g v).msc = s.msc := rfl
@[simp] theorem State.setGridInput_skd (s : State) (g : Fin 6) (v : GridInput) : (s.setGridInput g v).skd = s.skd := rfl
@[simp] theorem State.setGridInput_alt (s : State) (g : Fin 6) (v : GridInput) : (s.setGridInput g v).alt = s.alt := rfl
@[simp] theorem State.setGridInput_sns (s : State) (g : Fin 6) (v : GridInput) : (s.setGridInput g v).sns = s.sns := rfl
@[simp] theorem State.setGridInput_lnk (s : State) (g : Fin 6) (v : GridInput) : (s.setGridInput g v).lnk = s.lnk := rfl
@[simp] theorem State.setGridInput_clk (s : State) (g : Fin 6) (v : GridInput) : (s.setGridInput g v).clk = s.clk := rfl
@[simp] theorem State.setGridInput_sst (s : State) (g : Fin 6) (v : GridInput) : (s.setGridInput g v).sst = s.sst := rfl
@[simp] theorem State.setGridInput_pending (s : State) (g : Fin 6) (v : GridInput) :
    (s.setGridInput g v).pending = s.pending := rfl

/-! ### advance -/

@[simp] theorem State.advance_phase (s : State) (t : Tick) : (s.advance t).phase = s.phase := rfl
@[simp] theorem State.advance_now (s : State) (t : Tick) : (s.advance t).now = max s.now t := rfl
@[simp] theorem State.advance_trk (s : State) (t : Tick) : (s.advance t).trk = s.trk := rfl
@[simp] theorem State.advance_acq (s : State) (t : Tick) : (s.advance t).acq = s.acq := rfl
@[simp] theorem State.advance_sav (s : State) (t : Tick) : (s.advance t).sav = s.sav := rfl
@[simp] theorem State.advance_ind (s : State) (t : Tick) : (s.advance t).ind = s.ind := rfl
@[simp] theorem State.advance_gra (s : State) (t : Tick) : (s.advance t).gra = s.gra := rfl
@[simp] theorem State.advance_rgc (s : State) (t : Tick) : (s.advance t).rgc = s.rgc := rfl
@[simp] theorem State.advance_icm (s : State) (t : Tick) : (s.advance t).icm = s.icm := rfl
@[simp] theorem State.advance_msc (s : State) (t : Tick) : (s.advance t).msc = s.msc := rfl
@[simp] theorem State.advance_skd (s : State) (t : Tick) : (s.advance t).skd = s.skd := rfl
@[simp] theorem State.advance_alt (s : State) (t : Tick) : (s.advance t).alt = s.alt := rfl
@[simp] theorem State.advance_sns (s : State) (t : Tick) : (s.advance t).sns = s.sns := rfl
@[simp] theorem State.advance_lnk (s : State) (t : Tick) : (s.advance t).lnk = s.lnk := rfl
@[simp] theorem State.advance_clk (s : State) (t : Tick) : (s.advance t).clk = s.clk := rfl
@[simp] theorem State.advance_sst (s : State) (t : Tick) : (s.advance t).sst = s.sst := rfl
@[simp] theorem State.advance_pending (s : State) (t : Tick) : (s.advance t).pending = s.pending := rfl

/-! ### setScan -/

@[simp] theorem State.setScan_phase (s : State) (ch : Channel) (x : Option Scan) : (s.setScan ch x).phase = s.phase := rfl
@[simp] theorem State.setScan_now (s : State) (ch : Channel) (x : Option Scan) : (s.setScan ch x).now = s.now := rfl
@[simp] theorem State.setScan_trk (s : State) (ch : Channel) (x : Option Scan) : (s.setScan ch x).trk = s.trk := rfl
@[simp] theorem State.setScan_acq (s : State) (ch : Channel) (x : Option Scan) :
    (s.setScan ch x).acq = { s.acq with scans := s.acq.scans.set ch x } := rfl
@[simp] theorem State.setScan_sav (s : State) (ch : Channel) (x : Option Scan) : (s.setScan ch x).sav = s.sav := rfl
@[simp] theorem State.setScan_ind (s : State) (ch : Channel) (x : Option Scan) : (s.setScan ch x).ind = s.ind := rfl
@[simp] theorem State.setScan_gra (s : State) (ch : Channel) (x : Option Scan) : (s.setScan ch x).gra = s.gra := rfl
@[simp] theorem State.setScan_rgc (s : State) (ch : Channel) (x : Option Scan) : (s.setScan ch x).rgc = s.rgc := rfl
@[simp] theorem State.setScan_icm (s : State) (ch : Channel) (x : Option Scan) : (s.setScan ch x).icm = s.icm := rfl
@[simp] theorem State.setScan_msc (s : State) (ch : Channel) (x : Option Scan) : (s.setScan ch x).msc = s.msc := rfl
@[simp] theorem State.setScan_skd (s : State) (ch : Channel) (x : Option Scan) : (s.setScan ch x).skd = s.skd := rfl
@[simp] theorem State.setScan_alt (s : State) (ch : Channel) (x : Option Scan) : (s.setScan ch x).alt = s.alt := rfl
@[simp] theorem State.setScan_sns (s : State) (ch : Channel) (x : Option Scan) : (s.setScan ch x).sns = s.sns := rfl
@[simp] theorem State.setScan_lnk (s : State) (ch : Channel) (x : Option Scan) : (s.setScan ch x).lnk = s.lnk := rfl
@[simp] theorem State.setScan_clk (s : State) (ch : Channel) (x : Option Scan) : (s.setScan ch x).clk = s.clk := rfl
@[simp] theorem State.setScan_sst (s : State) (ch : Channel) (x : Option Scan) : (s.setScan ch x).sst = s.sst := rfl
@[simp] theorem State.setScan_pending (s : State) (ch : Channel) (x : Option Scan) : (s.setScan ch x).pending = s.pending := rfl

/-! ### setConverter -/

@[simp] theorem State.setConverter_phase (s : State) (c : Option Conversion) : (s.setConverter c).phase = s.phase := rfl
@[simp] theorem State.setConverter_now (s : State) (c : Option Conversion) : (s.setConverter c).now = s.now := rfl
@[simp] theorem State.setConverter_trk (s : State) (c : Option Conversion) : (s.setConverter c).trk = s.trk := rfl
@[simp] theorem State.setConverter_acq (s : State) (c : Option Conversion) :
    (s.setConverter c).acq = { s.acq with converter := c } := rfl
@[simp] theorem State.setConverter_sav (s : State) (c : Option Conversion) : (s.setConverter c).sav = s.sav := rfl
@[simp] theorem State.setConverter_ind (s : State) (c : Option Conversion) : (s.setConverter c).ind = s.ind := rfl
@[simp] theorem State.setConverter_gra (s : State) (c : Option Conversion) : (s.setConverter c).gra = s.gra := rfl
@[simp] theorem State.setConverter_rgc (s : State) (c : Option Conversion) : (s.setConverter c).rgc = s.rgc := rfl
@[simp] theorem State.setConverter_icm (s : State) (c : Option Conversion) : (s.setConverter c).icm = s.icm := rfl
@[simp] theorem State.setConverter_msc (s : State) (c : Option Conversion) : (s.setConverter c).msc = s.msc := rfl
@[simp] theorem State.setConverter_skd (s : State) (c : Option Conversion) : (s.setConverter c).skd = s.skd := rfl
@[simp] theorem State.setConverter_alt (s : State) (c : Option Conversion) : (s.setConverter c).alt = s.alt := rfl
@[simp] theorem State.setConverter_sns (s : State) (c : Option Conversion) : (s.setConverter c).sns = s.sns := rfl
@[simp] theorem State.setConverter_lnk (s : State) (c : Option Conversion) : (s.setConverter c).lnk = s.lnk := rfl
@[simp] theorem State.setConverter_clk (s : State) (c : Option Conversion) : (s.setConverter c).clk = s.clk := rfl
@[simp] theorem State.setConverter_sst (s : State) (c : Option Conversion) : (s.setConverter c).sst = s.sst := rfl
@[simp] theorem State.setConverter_pending (s : State) (c : Option Conversion) : (s.setConverter c).pending = s.pending := rfl

/-! ### raise -/

@[simp] theorem State.raise_phase (s : State) (a : Alert) : (s.raise a).phase = s.phase := rfl
@[simp] theorem State.raise_now (s : State) (a : Alert) : (s.raise a).now = s.now := rfl
@[simp] theorem State.raise_trk (s : State) (a : Alert) : (s.raise a).trk = s.trk := rfl
@[simp] theorem State.raise_acq (s : State) (a : Alert) : (s.raise a).acq = s.acq := rfl
@[simp] theorem State.raise_sav (s : State) (a : Alert) : (s.raise a).sav = s.sav := rfl
@[simp] theorem State.raise_ind (s : State) (a : Alert) : (s.raise a).ind = s.ind := rfl
@[simp] theorem State.raise_gra (s : State) (a : Alert) : (s.raise a).gra = s.gra := rfl
@[simp] theorem State.raise_rgc (s : State) (a : Alert) : (s.raise a).rgc = s.rgc := rfl
@[simp] theorem State.raise_icm (s : State) (a : Alert) : (s.raise a).icm = s.icm := rfl
@[simp] theorem State.raise_msc (s : State) (a : Alert) : (s.raise a).msc = s.msc := rfl
@[simp] theorem State.raise_skd (s : State) (a : Alert) : (s.raise a).skd = s.skd := rfl
@[simp] theorem State.raise_alt (s : State) (a : Alert) : (s.raise a).alt = (s.alt.place (a.stamped s)).withAttn s.phase := rfl
@[simp] theorem State.raise_sns (s : State) (a : Alert) : (s.raise a).sns = s.sns := rfl
@[simp] theorem State.raise_lnk (s : State) (a : Alert) : (s.raise a).lnk = s.lnk := rfl
@[simp] theorem State.raise_clk (s : State) (a : Alert) : (s.raise a).clk = s.clk := rfl
@[simp] theorem State.raise_sst (s : State) (a : Alert) : (s.raise a).sst = s.sst := rfl
@[simp] theorem State.raise_pending (s : State) (a : Alert) : (s.raise a).pending = s.pending := rfl

/-! ### takeSnapshot -/

@[simp] theorem State.takeSnapshot_phase (s : State) (b : SnapBody) : (s.takeSnapshot b).phase = s.phase := rfl
@[simp] theorem State.takeSnapshot_now (s : State) (b : SnapBody) : (s.takeSnapshot b).now = s.now := rfl
@[simp] theorem State.takeSnapshot_trk (s : State) (b : SnapBody) : (s.takeSnapshot b).trk = s.trk := rfl
@[simp] theorem State.takeSnapshot_acq (s : State) (b : SnapBody) : (s.takeSnapshot b).acq = s.acq := rfl
@[simp] theorem State.takeSnapshot_sav (s : State) (b : SnapBody) : (s.takeSnapshot b).sav = s.sav := rfl
@[simp] theorem State.takeSnapshot_ind (s : State) (b : SnapBody) : (s.takeSnapshot b).ind = s.ind := rfl
@[simp] theorem State.takeSnapshot_gra (s : State) (b : SnapBody) : (s.takeSnapshot b).gra = s.gra := rfl
@[simp] theorem State.takeSnapshot_rgc (s : State) (b : SnapBody) : (s.takeSnapshot b).rgc = s.rgc := rfl
@[simp] theorem State.takeSnapshot_icm (s : State) (b : SnapBody) : (s.takeSnapshot b).icm = s.icm := rfl
@[simp] theorem State.takeSnapshot_msc (s : State) (b : SnapBody) : (s.takeSnapshot b).msc = s.msc := rfl
@[simp] theorem State.takeSnapshot_skd (s : State) (b : SnapBody) : (s.takeSnapshot b).skd = s.skd := rfl
@[simp] theorem State.takeSnapshot_alt (s : State) (b : SnapBody) : (s.takeSnapshot b).alt = s.alt := rfl
@[simp] theorem State.takeSnapshot_sns (s : State) (b : SnapBody) :
    (s.takeSnapshot b).sns = if s.sns.takes then ⟨s.sns.stack ++ [s.stampSnapshot b], s.sns.nextNumber + 1⟩ else s.sns := rfl
@[simp] theorem State.takeSnapshot_lnk (s : State) (b : SnapBody) : (s.takeSnapshot b).lnk = s.lnk := rfl
@[simp] theorem State.takeSnapshot_clk (s : State) (b : SnapBody) : (s.takeSnapshot b).clk = s.clk := rfl
@[simp] theorem State.takeSnapshot_sst (s : State) (b : SnapBody) : (s.takeSnapshot b).sst = s.sst := rfl
@[simp] theorem State.takeSnapshot_pending (s : State) (b : SnapBody) : (s.takeSnapshot b).pending = s.pending := rfl

/-! ### requestWrite -/

@[simp] theorem State.requestWrite_phase (s : State) : s.requestWrite.phase = s.phase := rfl
@[simp] theorem State.requestWrite_now (s : State) : s.requestWrite.now = s.now := rfl
@[simp] theorem State.requestWrite_trk (s : State) : s.requestWrite.trk = s.trk := rfl
@[simp] theorem State.requestWrite_acq (s : State) : s.requestWrite.acq = s.acq := rfl
@[simp] theorem State.requestWrite_sav (s : State) : s.requestWrite.sav = s.sav := rfl
@[simp] theorem State.requestWrite_ind (s : State) : s.requestWrite.ind = s.ind := rfl
@[simp] theorem State.requestWrite_gra (s : State) : s.requestWrite.gra = s.gra := rfl
@[simp] theorem State.requestWrite_rgc (s : State) : s.requestWrite.rgc = s.rgc := rfl
@[simp] theorem State.requestWrite_icm (s : State) : s.requestWrite.icm = s.icm := rfl
@[simp] theorem State.requestWrite_msc (s : State) : s.requestWrite.msc = s.msc := rfl
@[simp] theorem State.requestWrite_skd (s : State) : s.requestWrite.skd = s.skd := rfl
@[simp] theorem State.requestWrite_alt (s : State) : s.requestWrite.alt = s.alt := rfl
@[simp] theorem State.requestWrite_sns (s : State) : s.requestWrite.sns = s.sns := rfl
@[simp] theorem State.requestWrite_lnk (s : State) : s.requestWrite.lnk = s.lnk := rfl
@[simp] theorem State.requestWrite_clk (s : State) : s.requestWrite.clk = s.clk := rfl
@[simp] theorem State.requestWrite_sst (s : State) : s.requestWrite.sst = s.sst.requested s.contents s.now := rfl
@[simp] theorem State.requestWrite_pending (s : State) : s.requestWrite.pending = s.pending := rfl

/-! ### discardBlock -/

@[simp] theorem State.discardBlock_phase (s : State) : s.discardBlock.phase = s.phase := rfl
@[simp] theorem State.discardBlock_now (s : State) : s.discardBlock.now = s.now := rfl
@[simp] theorem State.discardBlock_trk (s : State) : s.discardBlock.trk = s.trk := rfl
@[simp] theorem State.discardBlock_acq (s : State) : s.discardBlock.acq = s.acq := rfl
@[simp] theorem State.discardBlock_sav (s : State) : s.discardBlock.sav = s.sav := rfl
@[simp] theorem State.discardBlock_ind (s : State) : s.discardBlock.ind = s.ind := rfl
@[simp] theorem State.discardBlock_gra (s : State) : s.discardBlock.gra = { s.gra with block := none } := rfl
@[simp] theorem State.discardBlock_rgc (s : State) : s.discardBlock.rgc = s.rgc := rfl
@[simp] theorem State.discardBlock_icm (s : State) : s.discardBlock.icm = s.icm := rfl
@[simp] theorem State.discardBlock_msc (s : State) : s.discardBlock.msc = s.msc := rfl
@[simp] theorem State.discardBlock_skd (s : State) : s.discardBlock.skd = s.skd := rfl
@[simp] theorem State.discardBlock_alt (s : State) : s.discardBlock.alt = s.alt := rfl
@[simp] theorem State.discardBlock_sns (s : State) : s.discardBlock.sns = s.sns := rfl
@[simp] theorem State.discardBlock_lnk (s : State) : s.discardBlock.lnk = s.lnk := rfl
@[simp] theorem State.discardBlock_clk (s : State) : s.discardBlock.clk = s.clk := rfl
@[simp] theorem State.discardBlock_sst (s : State) : s.discardBlock.sst = s.sst := rfl
@[simp] theorem State.discardBlock_pending (s : State) : s.discardBlock.pending = s.pending := rfl

/-! ### clearCandidate -/

@[simp] theorem State.clearCandidate_phase (s : State) : s.clearCandidate.phase = s.phase := rfl
@[simp] theorem State.clearCandidate_now (s : State) : s.clearCandidate.now = s.now := rfl
@[simp] theorem State.clearCandidate_trk (s : State) : s.clearCandidate.trk = s.trk := rfl
@[simp] theorem State.clearCandidate_acq (s : State) : s.clearCandidate.acq = s.acq := rfl
@[simp] theorem State.clearCandidate_sav (s : State) : s.clearCandidate.sav = s.sav := rfl
@[simp] theorem State.clearCandidate_ind (s : State) : s.clearCandidate.ind = s.ind := rfl
@[simp] theorem State.clearCandidate_gra (s : State) : s.clearCandidate.gra = s.gra := rfl
@[simp] theorem State.clearCandidate_rgc (s : State) : s.clearCandidate.rgc = { s.rgc with candidate := none } := rfl
@[simp] theorem State.clearCandidate_icm (s : State) : s.clearCandidate.icm = s.icm := rfl
@[simp] theorem State.clearCandidate_msc (s : State) : s.clearCandidate.msc = s.msc := rfl
@[simp] theorem State.clearCandidate_skd (s : State) : s.clearCandidate.skd = s.skd := rfl
@[simp] theorem State.clearCandidate_alt (s : State) : s.clearCandidate.alt = s.alt := rfl
@[simp] theorem State.clearCandidate_sns (s : State) : s.clearCandidate.sns = s.sns := rfl
@[simp] theorem State.clearCandidate_lnk (s : State) : s.clearCandidate.lnk = s.lnk := rfl
@[simp] theorem State.clearCandidate_clk (s : State) : s.clearCandidate.clk = s.clk := rfl
@[simp] theorem State.clearCandidate_sst (s : State) : s.clearCandidate.sst = s.sst := rfl
@[simp] theorem State.clearCandidate_pending (s : State) : s.clearCandidate.pending = s.pending := rfl

/-! ### addPlace -/

@[simp] theorem State.addPlace_phase (s : State) (p : Place) : (s.addPlace p).phase = s.phase := rfl
@[simp] theorem State.addPlace_now (s : State) (p : Place) : (s.addPlace p).now = s.now := rfl
@[simp] theorem State.addPlace_trk (s : State) (p : Place) : (s.addPlace p).trk = s.trk := rfl
@[simp] theorem State.addPlace_acq (s : State) (p : Place) : (s.addPlace p).acq = s.acq := rfl
@[simp] theorem State.addPlace_sav (s : State) (p : Place) : (s.addPlace p).sav = s.sav := rfl
@[simp] theorem State.addPlace_ind (s : State) (p : Place) : (s.addPlace p).ind = s.ind := rfl
@[simp] theorem State.addPlace_gra (s : State) (p : Place) : (s.addPlace p).gra = s.gra := rfl
@[simp] theorem State.addPlace_rgc (s : State) (p : Place) : (s.addPlace p).rgc = s.rgc := rfl
@[simp] theorem State.addPlace_icm (s : State) (p : Place) : (s.addPlace p).icm = s.icm := rfl
@[simp] theorem State.addPlace_msc (s : State) (p : Place) : (s.addPlace p).msc = s.msc := rfl
@[simp] theorem State.addPlace_skd (s : State) (p : Place) : (s.addPlace p).skd = s.skd := rfl
@[simp] theorem State.addPlace_alt (s : State) (p : Place) : (s.addPlace p).alt = s.alt := rfl
@[simp] theorem State.addPlace_sns (s : State) (p : Place) : (s.addPlace p).sns = s.sns := rfl
@[simp] theorem State.addPlace_lnk (s : State) (p : Place) :
    (s.addPlace p).lnk = { s.lnk with order := s.lnk.order ++ [p] } := rfl
@[simp] theorem State.addPlace_clk (s : State) (p : Place) : (s.addPlace p).clk = s.clk := rfl
@[simp] theorem State.addPlace_sst (s : State) (p : Place) : (s.addPlace p).sst = s.sst := rfl
@[simp] theorem State.addPlace_pending (s : State) (p : Place) : (s.addPlace p).pending = s.pending := rfl

/-! ### makeReady -/

@[simp] theorem State.makeReady_phase (s : State) (r : Reply) (b : Bool) : (s.makeReady r b).phase = s.phase := rfl
@[simp] theorem State.makeReady_now (s : State) (r : Reply) (b : Bool) : (s.makeReady r b).now = s.now := rfl
@[simp] theorem State.makeReady_trk (s : State) (r : Reply) (b : Bool) : (s.makeReady r b).trk = s.trk := rfl
@[simp] theorem State.makeReady_acq (s : State) (r : Reply) (b : Bool) : (s.makeReady r b).acq = s.acq := rfl
@[simp] theorem State.makeReady_sav (s : State) (r : Reply) (b : Bool) : (s.makeReady r b).sav = s.sav := rfl
@[simp] theorem State.makeReady_ind (s : State) (r : Reply) (b : Bool) : (s.makeReady r b).ind = s.ind := rfl
@[simp] theorem State.makeReady_gra (s : State) (r : Reply) (b : Bool) : (s.makeReady r b).gra = s.gra := rfl
@[simp] theorem State.makeReady_rgc (s : State) (r : Reply) (b : Bool) : (s.makeReady r b).rgc = s.rgc := rfl
@[simp] theorem State.makeReady_icm (s : State) (r : Reply) (b : Bool) : (s.makeReady r b).icm = s.icm := rfl
@[simp] theorem State.makeReady_msc (s : State) (r : Reply) (b : Bool) : (s.makeReady r b).msc = s.msc := rfl
@[simp] theorem State.makeReady_skd (s : State) (r : Reply) (b : Bool) : (s.makeReady r b).skd = s.skd := rfl
@[simp] theorem State.makeReady_alt (s : State) (r : Reply) (b : Bool) : (s.makeReady r b).alt = s.alt := rfl
@[simp] theorem State.makeReady_sns (s : State) (r : Reply) (b : Bool) : (s.makeReady r b).sns = s.sns := rfl
@[simp] theorem State.makeReady_lnk (s : State) (r : Reply) (b : Bool) :
    (s.makeReady r b).lnk = { s.lnk with order := fillFirst r b s.lnk.order } := rfl
@[simp] theorem State.makeReady_clk (s : State) (r : Reply) (b : Bool) : (s.makeReady r b).clk = s.clk := rfl
@[simp] theorem State.makeReady_sst (s : State) (r : Reply) (b : Bool) : (s.makeReady r b).sst = s.sst := rfl
@[simp] theorem State.makeReady_pending (s : State) (r : Reply) (b : Bool) : (s.makeReady r b).pending = s.pending := rfl

/-! ### kick -/

@[simp] theorem State.kick_phase (s : State) : s.kick.phase = s.phase := rfl
@[simp] theorem State.kick_now (s : State) : s.kick.now = s.now := rfl
@[simp] theorem State.kick_trk (s : State) : s.kick.trk = s.trk := rfl
@[simp] theorem State.kick_acq (s : State) : s.kick.acq = s.acq := rfl
@[simp] theorem State.kick_sav (s : State) : s.kick.sav = s.sav := rfl
@[simp] theorem State.kick_ind (s : State) : s.kick.ind = s.ind := rfl
@[simp] theorem State.kick_gra (s : State) : s.kick.gra = s.gra := rfl
@[simp] theorem State.kick_rgc (s : State) : s.kick.rgc = s.rgc := rfl
@[simp] theorem State.kick_icm (s : State) : s.kick.icm = s.icm := rfl
@[simp] theorem State.kick_msc (s : State) : s.kick.msc = s.msc := rfl
@[simp] theorem State.kick_skd (s : State) : s.kick.skd = s.skd := rfl
@[simp] theorem State.kick_alt (s : State) : s.kick.alt = s.alt := rfl
@[simp] theorem State.kick_sns (s : State) : s.kick.sns = s.sns := rfl
@[simp] theorem State.kick_lnk (s : State) : s.kick.lnk = s.lnk.kicked := rfl
@[simp] theorem State.kick_clk (s : State) : s.kick.clk = s.clk := rfl
@[simp] theorem State.kick_sst (s : State) : s.kick.sst = s.sst := rfl
@[simp] theorem State.kick_pending (s : State) : s.kick.pending = s.pending := rfl

/-! ### setReceiver -/

@[simp] theorem State.setReceiver_phase (s : State) (r : Receiver) : (s.setReceiver r).phase = s.phase := rfl
@[simp] theorem State.setReceiver_now (s : State) (r : Receiver) : (s.setReceiver r).now = s.now := rfl
@[simp] theorem State.setReceiver_trk (s : State) (r : Receiver) : (s.setReceiver r).trk = s.trk := rfl
@[simp] theorem State.setReceiver_acq (s : State) (r : Receiver) : (s.setReceiver r).acq = s.acq := rfl
@[simp] theorem State.setReceiver_sav (s : State) (r : Receiver) : (s.setReceiver r).sav = s.sav := rfl
@[simp] theorem State.setReceiver_ind (s : State) (r : Receiver) : (s.setReceiver r).ind = s.ind := rfl
@[simp] theorem State.setReceiver_gra (s : State) (r : Receiver) : (s.setReceiver r).gra = s.gra := rfl
@[simp] theorem State.setReceiver_rgc (s : State) (r : Receiver) : (s.setReceiver r).rgc = s.rgc := rfl
@[simp] theorem State.setReceiver_icm (s : State) (r : Receiver) : (s.setReceiver r).icm = s.icm := rfl
@[simp] theorem State.setReceiver_msc (s : State) (r : Receiver) : (s.setReceiver r).msc = s.msc := rfl
@[simp] theorem State.setReceiver_skd (s : State) (r : Receiver) : (s.setReceiver r).skd = s.skd := rfl
@[simp] theorem State.setReceiver_alt (s : State) (r : Receiver) : (s.setReceiver r).alt = s.alt := rfl
@[simp] theorem State.setReceiver_sns (s : State) (r : Receiver) : (s.setReceiver r).sns = s.sns := rfl
@[simp] theorem State.setReceiver_lnk (s : State) (r : Receiver) : (s.setReceiver r).lnk = { s.lnk with receiver := r } := rfl
@[simp] theorem State.setReceiver_clk (s : State) (r : Receiver) : (s.setReceiver r).clk = s.clk := rfl
@[simp] theorem State.setReceiver_sst (s : State) (r : Receiver) : (s.setReceiver r).sst = s.sst := rfl
@[simp] theorem State.setReceiver_pending (s : State) (r : Receiver) : (s.setReceiver r).pending = s.pending := rfl

/-! ### Reading what an update wrote -/

theorem State.track_def (s : State) (ch : Channel) : s.track ch = s.trk.get ch := rfl

@[simp] theorem State.track_setTrack_self (s : State) (ch : Channel) (t : Track) : (s.setTrack ch t).track ch = t :=
  PerChannel.get_set_self ..

theorem State.track_setTrack_ne (s : State) {ch o : Channel} (t : Track) (h : o ≠ ch) : (s.setTrack ch t).track o = s.track o :=
  PerChannel.get_set_ne _ _ h

@[simp] theorem State.setTrack_setTrack (s : State) (ch : Channel) (t u : Track) :
    (s.setTrack ch t).setTrack ch u = s.setTrack ch u := by simp [State.setTrack]

@[simp] theorem State.setTrack_track (s : State) (ch : Channel) : s.setTrack ch (s.track ch) = s := by
  simp [State.setTrack, State.track]

end Sys2Proof.Machine
end

