-- ==== Sys2Proof/Laws/Frames.lean ====
section
/-! SUPPORT. What each shared operation can change: the operation's result is the state it began with but for the fields named, so
that a proof cites the frame in place of unfolding the operation. -/

namespace Sys2Proof.Machine

/-- A relation that every step of a fold keeps holds of the whole fold. -/
theorem foldl_rel {σ α : Type} {R : σ → σ → Prop} {f : σ → α → σ} (refl : ∀ s, R s s) (trans : ∀ {s t u}, R s t → R t u → R s u)
    (h : ∀ s a, R s (f s a)) (l : List α) (s : σ) : R s (l.foldl f s) := by
  induction l generalizing s with
  | nil => exact refl s
  | cons a l ih => exact trans (h s a) (ih _)

/-- The same but for the alert list. -/
def OnlyAlt (s t : State) : Prop := t = { s with alt := t.alt }

/-- The same but for the items and the alert list. -/
def OnlyItems (s t : State) : Prop := t = { s with msc := t.msc, alt := t.alt }

/-- The same but for the averager. -/
def OnlySav (s t : State) : Prop := t = { s with sav := t.sav }

/-- The same but for the grid inputs' measurements. -/
def OnlyGridInputs (s t : State) : Prop := t = { s with gra := { s.gra with inputs := t.gra.inputs } }

/-- The same but for scans, the converter and the buffers that samples go to. -/
def OnlySampling (s t : State) : Prop :=
  t = { s with
    acq := { s.acq with scans := t.acq.scans, converter := t.acq.converter }, sav := t.sav
    gra := { s.gra with inputs := t.gra.inputs } }

theorem OnlyAlt.refl (s : State) : OnlyAlt s s := rfl

theorem OnlyAlt.trans {s t u : State} (h : OnlyAlt s t) (k : OnlyAlt t u) : OnlyAlt s u := by
  unfold OnlyAlt at *; rw [k, h]

theorem OnlyItems.refl (s : State) : OnlyItems s s := rfl

theorem OnlyItems.trans {s t u : State} (h : OnlyItems s t) (k : OnlyItems t u) : OnlyItems s u := by
  unfold OnlyItems at *; rw [k, h]

theorem OnlyAlt.items {s t : State} (h : OnlyAlt s t) : OnlyItems s t := by
  unfold OnlyAlt at h; unfold OnlyItems; rw [h]

theorem OnlySav.refl (s : State) : OnlySav s s := rfl

theorem OnlySav.trans {s t u : State} (h : OnlySav s t) (k : OnlySav t u) : OnlySav s u := by
  unfold OnlySav at *; rw [k, h]

theorem OnlyGridInputs.refl (s : State) : OnlyGridInputs s s := rfl

theorem OnlyGridInputs.trans {s t u : State} (h : OnlyGridInputs s t) (k : OnlyGridInputs t u) : OnlyGridInputs s u := by
  unfold OnlyGridInputs at *; rw [k, h]

theorem OnlySampling.refl (s : State) : OnlySampling s s := rfl

theorem OnlySampling.trans {s t u : State} (h : OnlySampling s t) (k : OnlySampling t u) : OnlySampling s u := by
  unfold OnlySampling at *; rw [k, h]

theorem OnlySav.sampling {s t : State} (h : OnlySav s t) : OnlySampling s t := by
  unfold OnlySav at h; unfold OnlySampling; rw [h]

theorem OnlyGridInputs.sampling {s t : State} (h : OnlyGridInputs s t) : OnlySampling s t := by
  unfold OnlyGridInputs at h; unfold OnlySampling; rw [h]

/-! ### Alerts and items -/

theorem raiseAll_onlyAlt (s : State) (as : List Alert) : OnlyAlt s (s.raiseAll as) :=
  foldl_rel (f := State.raise) OnlyAlt.refl OnlyAlt.trans (fun _ _ => rfl) as s

theorem recompute_onlyItems (s : State) (slot : Fin 16) (it : Item) : OnlyItems s (s.recompute slot it) := by
  unfold State.recompute
  exact OnlyItems.trans (t := s.setItem slot { it with state := it.computedState }) rfl (raiseAll_onlyAlt ..).items

theorem accrueAt_onlyItems (concerns : Item → Bool) (amount : Nat) (s : State) (slot : Fin 16) :
    OnlyItems s (s.accrueAt concerns amount slot) := by
  unfold State.accrueAt
  dsimp only
  split
  · exact recompute_onlyItems ..
  · exact OnlyItems.refl s

/-- An accrual changes items and alerts only. -/
theorem accrue_onlyItems (s : State) (concerns : Item → Bool) (amount : Nat) : OnlyItems s (s.accrue concerns amount) := by
  unfold State.accrue
  split
  · exact OnlyItems.refl s
  · exact foldl_rel OnlyItems.refl OnlyItems.trans (accrueAt_onlyItems concerns amount) allSlots s

theorem recountCalendars_onlyItems (s : State) : OnlyItems s s.recountCalendars := by
  unfold State.recountCalendars
  split
  · exact OnlyItems.refl s
  · refine foldl_rel OnlyItems.refl OnlyItems.trans (fun t slot => ?_) allSlots s
    unfold State.recountCalendar
    dsimp only
    split
    · exact recompute_onlyItems ..
    · exact OnlyItems.refl t

/-- A recomputed item is the item given, its state recomputed; every other item stands. -/
theorem recompute_item (s : State) (slot o : Fin 16) (it : Item) :
    (s.recompute slot it).msc.get o = if slot = o then { it with state := it.computedState } else s.msc.get o := by
  unfold State.recompute
  rw [raiseAll_onlyAlt (s.setItem slot { it with state := it.computedState })]
  simp [Tab.get_set]

/-! ### Averages and buffers -/

theorem setSav_onlySav (s : State) (va : Fin 6) (v : Sav) : OnlySav s (s.setSav va v) := rfl

theorem clearTsa_onlySav (s : State) (va : Fin 6) : OnlySav s (s.clearTsa va) := rfl

theorem clearList_onlySav (s : State) (ch : Channel) : OnlySav s (s.clearList ch) :=
  foldl_rel OnlySav.refl OnlySav.trans clearTsa_onlySav (s.vaList ch) s

theorem clearAllTsa_onlySav (s : State) : OnlySav s s.clearAllTsa :=
  foldl_rel OnlySav.refl OnlySav.trans clearTsa_onlySav allVa s

theorem setBuffers_onlySav (s : State) (ch : Channel) (b : Option RevBuffer) : OnlySav s (s.setBuffers ch b) :=
  foldl_rel OnlySav.refl OnlySav.trans (fun t va => setSav_onlySav t va { t.sav.get va with buffer := b }) (s.vaList ch) s

theorem setGridInput_onlyGridInputs (s : State) (g : Fin 6) (v : GridInput) : OnlyGridInputs s (s.setGridInput g v) := rfl

theorem setCycleBuffers_onlyGridInputs (s : State) (b : Option RevBuffer) : OnlyGridInputs s (s.setCycleBuffers b) :=
  foldl_rel OnlyGridInputs.refl OnlyGridInputs.trans
    (fun t g => setGridInput_onlyGridInputs t g { t.gra.inputs.get g with buffer := b }) s.present s

theorem freshBuffers_onlySampling (s : State) (ch : Channel) : OnlySampling s (s.freshBuffers ch) := by
  unfold State.freshBuffers
  split
  · split
    · exact (setCycleBuffers_onlyGridInputs ..).sampling
    · exact (setBuffers_onlySav ..).sampling
  · exact OnlySampling.refl s

/-! ### Sampling -/

theorem deliver_onlySampling (s : State) (x : Sample) : OnlySampling s (s.deliver x) := by
  unfold State.deliver
  split <;> rfl

theorem deliverHeld_onlySampling (rev : RevId) (slot : Nat) (s : State) (i : Input) :
    OnlySampling s (s.deliverHeld rev slot i) := deliver_onlySampling ..

theorem setScan_onlySampling (s : State) (ch : Channel) (x : Option Scan) : OnlySampling s (s.setScan ch x) := rfl

theorem dropScan_onlySampling (s : State) (ch : Channel) : OnlySampling s (s.dropScan ch) := rfl

theorem arbitrate_onlySampling (s : State) (b : Bool) : OnlySampling s (s.arbitrate b) := by
  unfold State.arbitrate
  split <;> rfl

theorem withdrawn_onlySampling (s : State) (c : Conversion) : OnlySampling s (s.withdrawn c) := by
  unfold State.withdrawn
  split <;> rfl

theorem overrun_onlySampling (s : State) (ch : Channel) : OnlySampling s (s.overrun ch) := by
  unfold State.overrun
  split
  · exact OnlySampling.trans (dropScan_onlySampling s ch)
      (foldl_rel OnlySampling.refl OnlySampling.trans (deliverHeld_onlySampling _ _) _ _)
  · exact OnlySampling.refl s

theorem arbitrateCreated_onlySampling (s : State) (b : Bool) : OnlySampling s (s.arbitrateCreated b) := by
  unfold State.arbitrateCreated
  split
  · exact arbitrate_onlySampling ..
  · split
    · exact OnlySampling.trans (withdrawn_onlySampling ..) (arbitrate_onlySampling ..)
    · exact OnlySampling.refl _

/-- A strobe changes scans, the converter and the buffers only. -/
theorem takeStrobe_onlySampling (s : State) (ch : Channel) (slot : Nat) : OnlySampling s (s.takeStrobe ch slot) := by
  unfold State.takeStrobe
  split
  · exact ((overrun_onlySampling s ch).trans (setScan_onlySampling _ ch _)).trans (arbitrateCreated_onlySampling ..)
  · exact OnlySampling.refl s

theorem completeConversion_onlySampling (s : State) (c : Conversion) (code : Code) :
    OnlySampling s (s.completeConversion c code) := by
  unfold State.completeConversion
  refine OnlySampling.trans (t := s.setConverter none) rfl ?_
  refine OnlySampling.trans ?_ (OnlySampling.trans (deliver_onlySampling ..) (arbitrate_onlySampling ..))
  unfold State.retireScan
  split
  · split
    · rfl
    · exact OnlySampling.refl _
  · exact OnlySampling.refl _

/-! ### The link -/

/-- The first pending place takes the reply; the places before it are ready and stand. -/
theorem fillFirst_append (r : Reply) (b : Bool) (before : List Place) (p : Place) (after : List Place)
    (ready : ∀ q ∈ before, q.reply.isSome = true) (pending : p.reply = none) :
    fillFirst r b (before ++ p :: after) = before ++ (⟨some r, b⟩ : Place) :: after := by
  induction before with
  | nil => simp [fillFirst, pending]
  | cons q before ih =>
    obtain ⟨x, hx⟩ := Option.isSome_iff_exists.1 (ready q (by simp))
    simp [fillFirst, hx, ih fun y hy => ready y (List.mem_cons_of_mem q hy)]

end Sys2Proof.Machine
end

