-- ==== Sys2Proof/Laws/Ops.lean ====
section
/-! SUPPORT. What the shared operations compute: cleared averages, accruals and recounts item by item, the slots a close judges, the
integer square root, the requests for a store write, and a request served at once. -/

namespace Sys2Proof.Machine

/-! ### Averages -/

/-- A clear empties one record and leaves the others. -/
theorem clearTsa_get (s : State) (va o : Fin 6) :
    (s.clearTsa va).sav.get o =
      if va = o then (s.sav.get o).cleared ((s.sav.get o).owner.map fun ch => (s.track ch).settings.n) else s.sav.get o := by
  by_cases h : va = o
  · subst h; simp [State.clearTsa]
  · simp [State.clearTsa, Tab.get_set, h]

theorem cleared_cleared (v : Sav) (n : Option Nat) : (v.cleared n).cleared n = v.cleared n := by
  cases n <;> rfl

/-- Clears of a list of inputs empty those and leave the others. -/
theorem clearTsa_foldl_get (l : List (Fin 6)) (s : State) (o : Fin 6) :
    (l.foldl State.clearTsa s).sav.get o =
      if o ∈ l then (s.sav.get o).cleared ((s.sav.get o).owner.map fun ch => (s.track ch).settings.n) else s.sav.get o := by
  induction l generalizing s with
  | nil => simp
  | cons a l ih =>
    have ht : ∀ ch, (s.clearTsa a).track ch = s.track ch := fun _ => rfl
    have hs : ∀ (v : Sav) n, (v.cleared n).owner = v.owner := fun _ _ => rfl
    simp only [List.foldl_cons, ih, clearTsa_get, List.mem_cons, ht]
    by_cases e : a = o
    · subst e; by_cases m : a ∈ l <;> simp [m, hs, cleared_cleared]
    · simp [e, Ne.symm (a := a) (b := o) e]

theorem mem_allVa (va : Fin 6) : va ∈ allVa := by revert va; decide

/-- Clearing all six records empties every one. -/
theorem clearAllTsa_get (s : State) (o : Fin 6) :
    s.clearAllTsa.sav.get o = (s.sav.get o).cleared ((s.sav.get o).owner.map fun ch => (s.track ch).settings.n) := by
  simp [State.clearAllTsa, clearTsa_foldl_get, mem_allVa]

/-! ### Items -/

theorem mem_allSlots (slot : Fin 16) : slot ∈ allSlots := by revert slot; decide

/-- The item one accrual leaves. -/
def Item.accruing (it : Item) (concerns : Item → Bool) (amount : Nat) : Item :=
  let more : Item := { it with accrued := satAdd max32 it.accrued amount }
  if concerns it then { more with state := more.computedState } else it

theorem accrueAt_item (concerns : Item → Bool) (amount : Nat) (s : State) (slot o : Fin 16) :
    (s.accrueAt concerns amount slot).msc.get o =
      if slot = o then (s.msc.get o).accruing concerns amount else s.msc.get o := by
  unfold State.accrueAt Item.accruing
  by_cases h : slot = o
  · subst h
    by_cases c : concerns (s.msc.get slot) = true <;> simp [c, recompute_item]
  · by_cases c : concerns (s.msc.get slot) = true <;> simp [c, recompute_item, h]

theorem accrueAt_foldl_item (concerns : Item → Bool) (amount : Nat) (l : List (Fin 16)) (nodup : l.Nodup) (s : State) (o : Fin 16) :
    (l.foldl (State.accrueAt concerns amount) s).msc.get o =
      if o ∈ l then (s.msc.get o).accruing concerns amount else s.msc.get o := by
  induction l generalizing s with
  | nil => simp
  | cons a l ih =>
    obtain ⟨ha, hl⟩ := List.nodup_cons.1 nodup
    simp only [List.foldl_cons, ih hl, accrueAt_item, List.mem_cons]
    by_cases e : a = o
    · subst e; simp [ha]
    · simp [e, Ne.symm (a := a) (b := o) e]

/-- An accrual event adds its amount to every item it concerns and to no other. -/
theorem accrue_item (s : State) (concerns : Item → Bool) (amount : Nat) (positive : amount ≠ 0) (o : Fin 16) :
    (s.accrue concerns amount).msc.get o = (s.msc.get o).accruing concerns amount := by
  simp [State.accrue, positive, accrueAt_foldl_item concerns amount allSlots (by decide), mem_allSlots]

/-- The item one recount of CALENDAR items leaves. -/
def Item.recounted (it : Item) (farm : Nat) : Item :=
  match it.basis, it.calendarStart with
  | .calendar, some start => { it with accrued := farm - start, state := ({ it with accrued := farm - start } : Item).computedState }
  | _, _ => it

theorem recountCalendar_item (farm : Nat) (s : State) (slot o : Fin 16) :
    (s.recountCalendar farm slot).msc.get o = if slot = o then (s.msc.get o).recounted farm else s.msc.get o := by
  unfold State.recountCalendar Item.recounted
  by_cases h : slot = o
  · subst h; dsimp only; split <;> simp_all [recompute_item]
  · dsimp only; split <;> simp [recompute_item, h]

theorem recountCalendar_foldl_item (farm : Nat) (l : List (Fin 16)) (nodup : l.Nodup) (s : State) (o : Fin 16) :
    (l.foldl (State.recountCalendar farm) s).msc.get o = if o ∈ l then (s.msc.get o).recounted farm else s.msc.get o := by
  induction l generalizing s with
  | nil => simp
  | cons a l ih =>
    obtain ⟨ha, hl⟩ := List.nodup_cons.1 nodup
    simp only [List.foldl_cons, ih hl, recountCalendar_item, List.mem_cons]
    by_cases e : a = o
    · subst e; simp [ha]
    · simp [e, Ne.symm (a := a) (b := o) e]

/-- While farm time is synced every CALENDAR item with a start recounts. -/
theorem recountCalendars_item (s : State) (farm : Nat) (synced : s.clk.farm = some farm) (o : Fin 16) :
    s.recountCalendars.msc.get o = (s.msc.get o).recounted farm := by
  simp [State.recountCalendars, synced, recountCalendar_foldl_item farm allSlots (by decide), mem_allSlots]

/-! ### Buffers at a close -/

theorem getLast?_cons_value (x : SlotSample) (l : List SlotSample) (last : Int) :
    (((x :: l).getLast?).map SlotSample.value).getD last = ((l.getLast?).map SlotSample.value).getD x.value := by
  cases l <;> simp [List.getLast?_cons]

/-- The completion from slot `i` on, slot by slot: the filled one, or one held at the last value before it. -/
theorem completeFrom_eq (left i : Nat) (last : Int) (filled : List SlotSample)
    (rising : filled.Pairwise fun p q => p.slot < q.slot) (low : ∀ x ∈ filled, i ≤ x.slot) :
    completeFrom left i last filled =
      (List.range left).map fun k =>
        match filled.find? fun x => x.slot = i + k with
        | some x => x
        | none =>
          ⟨i + k, (((filled.filter fun x => x.slot < i + k).getLast?).map SlotSample.value).getD last, true, false⟩ := by
  induction left generalizing i last filled with
  | zero => rfl
  | succ left ih =>
    rw [List.range_succ_eq_map, List.map_cons, List.map_map]
    cases filled with
    | nil =>
      simp only [completeFrom, ih _ _ _ List.Pairwise.nil (by simp)]
      congr 1
      apply List.map_congr_left
      intro k _
      simp [Nat.add_assoc, Nat.add_comm 1 k]
    | cons x rest =>
      obtain ⟨above, rising'⟩ := List.pairwise_cons.1 rising
      by_cases e : x.slot = i
      · have low' : ∀ y ∈ rest, i + 1 ≤ y.slot := fun y m => by have := above y m; omega
        simp only [completeFrom, e, if_true, ih _ _ _ rising' low']
        congr 1
        · simp [e]
        · apply List.map_congr_left
          intro k _
          have ne : x.slot ≠ i + 1 + k := by omega
          have lt : x.slot < i + 1 + k := by omega
          simp only [Function.comp_apply, Nat.succ_eq_add_one, show i + (k + 1) = i + 1 + k by omega, List.find?_cons, ne,
            decide_false, List.filter_cons, lt, decide_true, if_true, getLast?_cons_value]
      · have low' : ∀ y ∈ x :: rest, i + 1 ≤ y.slot := fun y m => by
          rcases List.mem_cons.1 m with rfl | m
          · have := low y (by simp); omega
          · have := low x (by simp); have := above y m; omega
        simp only [completeFrom, e, if_false, ih _ _ _ rising low']
        congr 1
        · have none : (x :: rest).find? (fun y => decide (y.slot = i + 0)) = none := by
            rw [List.find?_eq_none]; intro y m; have := low' y m; simp; omega
          have nil : (x :: rest).filter (fun y => decide (y.slot < i + 0)) = [] := by
            rw [List.filter_eq_nil_iff]; intro y m; have := low' y m; simp; omega
          simp only [none, nil]; simp
        · apply List.map_congr_left
          intro k _
          simp only [Function.comp_apply, Nat.succ_eq_add_one, show i + (k + 1) = i + 1 + k by omega]

/-- What a close judges is the completed buffer (R42, R59). -/
theorem completed_eq_closedSlots (samples : Nat) (rev : RevId) (b : Option RevBuffer) (rising : RisingSlots b) :
    completed samples rev b = closedSlots samples (gatheredFor rev b).slots := by
  have all (l : List SlotSample) (h : l.Pairwise fun p q => p.slot < q.slot) :
      completeFrom samples 0 0 l = closedSlots samples l := by
    rw [completeFrom_eq samples 0 0 l h (by simp)]
    exact List.map_congr_left fun k _ => by simp only [Nat.zero_add] <;> rfl
  cases b with
  | none => exact all [] List.Pairwise.nil
  | some x =>
    by_cases e : x.rev = rev
    · simpa [completed, gatheredFor, e, Option.filter] using all x.slots (rising x rfl)
    · simpa [completed, gatheredFor, e, Option.filter] using all [] List.Pairwise.nil

theorem clippedCount_eq (rev : RevId) (b : Option RevBuffer) : clippedCount rev b = (gatheredFor rev b).clipped := by
  cases b with
  | none => rfl
  | some x => by_cases e : x.rev = rev <;> simp [clippedCount, gatheredFor, e, Option.filter]

theorem heldCount_eq (slots : List SlotSample) : heldCount slots = slots.countP SlotSample.held :=
  List.countP_eq_length_filter.symm

/-! ### The integer square root -/

theorem isqrtFrom_spec (x : Nat) (k r : Nat) (low : r * r ≤ x) (high : x < (r + 2 ^ k) * (r + 2 ^ k)) :
    isqrtFrom x k r * isqrtFrom x k r ≤ x ∧ x < (isqrtFrom x k r + 1) * (isqrtFrom x k r + 1) := by
  induction k generalizing r with
  | zero => simpa [isqrtFrom] using ⟨low, high⟩
  | succ k ih =>
    unfold isqrtFrom
    split
    · rename_i h
      exact ih _ h (by rw [pow_succ] at high; rw [show r + 2 ^ k + 2 ^ k = r + 2 ^ k * 2 by ring]; exact high)
    · rename_i h
      exact ih _ low (Nat.lt_of_not_le h)

/-- `isqrt x` is the largest number whose square does not exceed `x`. -/
theorem isqrt_spec (x : Nat) : IsRoot (isqrt x) x := by
  refine isqrtFrom_spec x _ 0 (Nat.zero_le x) ?_
  have hx : x < 2 ^ (Nat.log2 x + 1) := Nat.lt_log2_self
  refine Nat.lt_of_lt_of_le hx ?_
  rw [Nat.zero_add, ← pow_add]
  exact Nat.pow_le_pow_right (by decide) (by omega)

/-! ### Store writes -/

theorem requested_idle (t : Sst) (copy : Image) (now : Tick) (idle : t.inFlight = none) :
    t.requested copy now = { t with inFlight := some ⟨copy, now⟩ } := by simp [Sst.requested, idle]

theorem requested_running (t : Sst) (copy : Image) (now : Tick) (running : t.inFlight.isSome = true) :
    t.requested copy now = { t with pendingWrite := true } := by
  obtain ⟨w, hw⟩ := Option.isSome_iff_exists.1 running
  simp [Sst.requested, hw]

/-! ### Requests served at once -/

theorem drops_of_servesAtOnce {s : State} (h : s.ServesAtOnce) : s.lnk.drops = false := by
  obtain ⟨_, h2, _, h4, _⟩ := h
  simpa [Lnk.drops, h2] using h4

theorem serve_answer (s : State) (r : Request) (notSave : r ≠ .save) (notReset : r ≠ .reset) :
    s.serve r = (s.answer r).1.makeReady (replyTo (requestType r) (s.answer r).2) false := by
  cases r <;> first | rfl | exact absurd rfl notSave | exact absurd rfl notReset

/-- A request row is its request submitted at its tick. -/
theorem exec_request {c : Instr} {r : Request} (h : c.request = some r) (s : State) :
    exec c s = .next (s.whileRunning (sentAt c) (State.submit r)) := by
  cases c <;> simp only [Instr.request, Option.some.injEq, reduceCtorEq] at h <;> subst h <;> rfl

/-- A request served at once leaves what its owner's rule makes of the state, `u`, with its reply at the end of the order. -/
theorem submit_servesAtOnce (s : State) (tick : Tick) (r : Request) (h : s.ServesAtOnce) (notSave : r ≠ .save)
    (notReset : r ≠ .reset) (u : State) (a : Answer)
    (answered : ∀ p, ((s.advance tick).addPlace p).answer r = (u.addPlace p, a)) (link : u.lnk = s.lnk) :
    s.whileRunning tick (State.submit r) = u.replied (requestType r + 0x80) a.status a.fields := by
  obtain ⟨p1, -, p3, -, p5⟩ := id h
  simp only [State.whileRunning, p1, State.submit, State.advance_lnk, drops_of_servesAtOnce h, State.dispatch, p3,
    serve_answer _ r notSave notReset, answered, Bool.false_eq_true, if_false]
  simp [State.replied, State.makeReady, State.addPlace, replyTo, link, fillFirst_append _ _ _ ⟨none, false⟩ [] p5 rfl]

end Sys2Proof.Machine
end

