-- ==== Sys2Proof/Tests/Slice0.lean ====
section
/-! SUPPORT. Tests of single operations and steps against values the spec states, the smoke test of well-formedness, and a witness
for the hypotheses of every statement. -/

namespace Sys2Proof.Tests

open Sys2Proof Sys2Proof.Machine

/-- The state an outcome leaves; the state before where it leaves none. -/
def outcome (s : State) : Host.Outcome State Fault Refusal → State
  | .next t => t
  | .fault _ | .refused _ => s

/-- The part after some commands, from reset. -/
def after (cs : List Instr) : State := cs.foldl (fun s c => outcome s (exec c s)) State.reset

/-! ### Well-formedness: an ill-formed term for each check -/

def track0 : TrackFields := ⟨0, true, .rising, 1, 256, 2000000, 40000000, 2000⟩

theorem test_wf_accepts : (Instr.setTrack track0 0).wellFormed = true ∧ Instr.powerOn.wellFormed = true := by decide

theorem test_wf_track :
    { track0 with channel := 256 }.wellFormed = false ∧ { track0 with z := 256 }.wellFormed = false
      ∧ { track0 with n := 65536 }.wellFormed = false ∧ { track0 with tmin := 4294967296 }.wellFormed = false
      ∧ { track0 with tmax := 4294967296 }.wellFormed = false ∧ { track0 with filter := 65536 }.wellFormed = false := by decide

def scan0 : ScanFields := ⟨Tab.replicate 24 ⟨255, false⟩, 255, 255, 255⟩

theorem test_wf_scan :
    scan0.wellFormed = true ∧ { scan0 with entries := scan0.entries.set 23 ⟨256, false⟩ }.wellFormed = false
      ∧ { scan0 with startTl := 256 }.wellFormed = false ∧ { scan0 with startTh := 256 }.wellFormed = false
      ∧ { scan0 with startTg := 256 }.wellFormed = false := by decide

def input0 : InputFields := ⟨0, 4, ⟨[1, 2, 3, 4], rfl⟩⟩

theorem test_wf_input :
    { input0 with input := 256 }.wellFormed = false ∧ { input0 with k := 256 }.wellFormed = false
      ∧ { input0 with orders := ⟨[1, 2, 3, 256], rfl⟩ }.wellFormed = false := by decide

def grid0 : GridFields := ⟨Tab.replicate 24 0, 80, 0, 0⟩

theorem test_wf_grid :
    { grid0 with limits := Tab.replicate 24 65536 }.wellFormed = false ∧ { grid0 with voltageThd := 65536 }.wellFormed = false
      ∧ { grid0 with currentThd := 65536 }.wellFormed = false ∧ { grid0 with kp := 65536 }.wellFormed = false := by decide

def regime0 : RegimeFields := ⟨⟨[50, 300, 800, 1300, 1800, 2300], rfl⟩, ⟨[0, 1, 2, 3, 4, 5, 6, 7], rfl⟩⟩

theorem test_wf_regime :
    { regime0 with breakpoints := Tab.replicate 6 65536 }.wellFormed = false
      ∧ { regime0 with map := Tab.replicate 8 256 }.wellFormed = false := by decide

def profile0 : ProfileFields := ⟨0, 0, Tab.replicate 8 ⟨300, 900⟩, 3⟩

theorem test_wf_profile :
    { profile0 with profile := 256 }.wellFormed = false ∧ { profile0 with input := 256 }.wellFormed = false
      ∧ { profile0 with levels := Tab.replicate 8 ⟨65536, 0⟩ }.wellFormed = false
      ∧ { profile0 with levels := Tab.replicate 8 ⟨0, 65536⟩ }.wellFormed = false
      ∧ { profile0 with persistence := 256 }.wellFormed = false := by decide

theorem test_wf_ambient :
    (AmbientFields.mk 32768 0 0).wellFormed = false ∧ (AmbientFields.mk 0 (-32769) 0).wellFormed = false
      ∧ (AmbientFields.mk 0 0 32768).wellFormed = false := by decide

def ice0 : IceFields := ⟨10, 85, 150, 300, 30, 1200, 1800, 0, false⟩

theorem test_wf_ice :
    { ice0 with tice := -32769 }.wellFormed = false ∧ { ice0 with hice := 256 }.wellFormed = false
      ∧ { ice0 with powerMargin := 65536 }.wellFormed = false ∧ { ice0 with imbalanceMargin := 65536 }.wellFormed = false
      ∧ { ice0 with period := 65536 }.wellFormed = false ∧ { ice0 with tConfirm := 65536 }.wellFormed = false
      ∧ { ice0 with tThaw := 65536 }.wellFormed = false ∧ { ice0 with iceInput := 256 }.wellFormed = false := by decide

theorem test_wf_curve :
    curveWellFormed (List.replicate 63 ⟨0, 0⟩) = false ∧ curveWellFormed [⟨65536, 0⟩] = false
      ∧ curveWellFormed [⟨0, 65536⟩] = false := by decide

def item0 : ItemFields := ⟨0, 7, 1, 255, 1, 0, .keep⟩

theorem test_wf_item :
    { item0 with slot := 256 }.wellFormed = false ∧ { item0 with tag := 65536 }.wellFormed = false
      ∧ { item0 with basis := 256 }.wellFormed = false ∧ { item0 with source := 256 }.wellFormed = false
      ∧ { item0 with interval := 4294967296 }.wellFormed = false ∧ { item0 with lead := 4294967296 }.wellFormed = false := by
  decide

theorem test_wf_numbers :
    (Instr.time 4294967296 0).wellFormed = false ∧ (Instr.readTrack 256 0).wellFormed = false
      ∧ (Instr.clearAverage 256 true 0).wellFormed = false ∧ (Instr.readTsa 256 0 1 0).wellFormed = false
      ∧ (Instr.readTsa 0 256 1 0).wellFormed = false ∧ (Instr.readTsa 0 0 256 0).wellFormed = false
      ∧ (Instr.readIndicators 256 0).wellFormed = false ∧ (Instr.readGrid 256 0).wellFormed = false
      ∧ (Instr.readRegime (some ⟨256, 0⟩) 0).wellFormed = false ∧ (Instr.readRegime (some ⟨0, 256⟩) 0).wellFormed = false
      ∧ (Instr.serviceDone 256 0).wellFormed = false ∧ (Instr.readItems 256 1 0).wellFormed = false
      ∧ (Instr.readItems 0 256 0).wellFormed = false ∧ (Instr.snapRead 65536 1 0).wellFormed = false
      ∧ (Instr.snapRead 0 256 0).wellFormed = false ∧ (Instr.snapPop 4294967296 0).wellFormed = false := by decide

/-! ### Values the spec states -/

/-- R166: over the nine bytes 0x31 to 0x39 the register ends at 0x29B1. -/
theorem test_crc : crc [0x31, 0x32, 0x33, 0x34, 0x35, 0x36, 0x37, 0x38, 0x39] = 0x29B1#16 := by decide +kernel

/-- R113's two examples. -/
theorem test_expected_power :
    expectedPower [⟨50, 200⟩, ⟨80, 900⟩] 63 = 503 ∧ expectedPower [⟨50, 200⟩, ⟨80, 900⟩, ⟨120, 2000⟩] 95 = 1312
      ∧ expectedPower [⟨50, 200⟩, ⟨80, 900⟩] 49 = 0 ∧ expectedPower [⟨50, 200⟩, ⟨80, 900⟩] 81 = 900 := by decide

/-- R47's example: k = 3, n = 20, so the effective shift is 3. -/
theorem test_average : averaged 3 [25600, 25600, 25600] [180, 20, 100] = [28160, 23040, 25600] := by decide

/-- R47's table of effective shifts, at the ends of its rows. -/
theorem test_effective_shift :
    [0, 1, 2, 3, 6, 7, 14, 15, 127, 254, 255, 65535].map (fun n => min 8 (Nat.log2 (n + 1)))
      = [0, 1, 1, 2, 2, 3, 3, 4, 7, 7, 8, 8] := by decide +kernel

/-- R96: with L = 900 an ALARM clears only below 787, and with W = 600 a WARN only below 525. -/
theorem test_fall_test :
    (LevelState.mk .alarm 0 0).evaluated ⟨600, 900⟩ 1 787 = ⟨.alarm, 0, 0⟩
      ∧ (LevelState.mk .alarm 0 0).evaluated ⟨600, 900⟩ 1 786 = ⟨.warn, 0, 0⟩
      ∧ (LevelState.mk .warn 0 0).evaluated ⟨600, 900⟩ 2 524 = ⟨.warn, 0, 1⟩ := by decide

/-- R79: zero or below is class 1 unless B1 is 0. -/
theorem test_power_class :
    powerClass ⟨[50, 300, 800, 1300, 1800, 2300], rfl⟩ (-5) = 1 ∧ powerClass ⟨[50, 300, 800, 1300, 1800, 2300], rfl⟩ 300 = 3
      ∧ powerClass ⟨[0, 300, 800, 1300, 1800, 2300], rfl⟩ 0 = 2 := by decide

/-- R61: the square root is the largest number whose square does not exceed the argument. -/
theorem test_square_root : [0, 1, 3, 4, 99, 100, 4294967295].map isqrt = [0, 1, 1, 2, 9, 10, 65535] := by decide +kernel

/-- R146's table. -/
theorem test_trains :
    modeAfterTrain .normal 3 = some .service ∧ modeAfterTrain .normal 5 = none ∧ modeAfterTrain .service 5 = some .test
      ∧ modeAfterTrain .test 3 = some .service ∧ modeAfterTrain .service 7 = some .normal ∧ modeAfterTrain .test 4 = none := by
  decide

/-! ### Single steps -/

/-- R180: a blank store leaves one STORE_DEFAULTS alert, which asserts ATTN when start-up ends; what reset is taken to be is a
start-up of a blank part that has ended (assumption 4). -/
theorem test_reset_is_a_start_up :
    outcome State.reset (exec (.startupEnd 0) { State.reset.unpowered.startUp with lnk := Lnk.afterStartUp false }) = State.reset :=
  by decide +kernel

/-- R158: the only record is fetched and ATTN is released; the line sends the reply. -/
theorem test_fetch :
    (after [.fetch 5]).alt = ⟨[], 2, false, false⟩ ∧ (after [.fetch 5]).lnk.sending.isSome = true := by decide +kernel

/-- R171: the reply to HELLO is a frame of 24 payload bytes and type 0x81 that begins with status OK and B, U, L. -/
theorem test_hello :
    ((after [.hello 0]).lnk.sending.getD []).take 7 = [0xC3, 24, 0x81, 0x00, 0x42, 0x55, 0x4C] := by decide +kernel

/-- R127: ICE_RELEASE in CLEAR is answered BAD_STATE. -/
theorem test_ice_release :
    (after [.iceRelease 0]).lnk.order = [⟨some ⟨0xB4, .badState, []⟩, false⟩] := by decide +kernel

/-- R140: SERVICE_DONE in NORMAL is NOT_IN_SERVICE whatever the item, and slot 16 is BAD_VALUE before it. -/
theorem test_service_done :
    (after [.serviceDone 15 0]).lnk.order = [⟨some ⟨0xB9, .notInService, []⟩, false⟩]
      ∧ (after [.serviceDone 16 0]).lnk.order = [⟨some ⟨0xB9, .badValue, []⟩, false⟩] := by decide +kernel

/-- R109: each field is clamped to the nearer end of its range. -/
theorem test_ambient :
    (after [.ambient ⟨-600, 101, 30⟩ 9]).icm.ambient = some ⟨-500, 100, 30, 9, true⟩ := by decide +kernel

/-- R139 and R135: an OPERATING item of interval 1 h with lead 1 h is DUE_SOON at once, with a NOTE. -/
theorem test_set_item :
    ((after [.setItem ⟨3, 7, 1, 255, 1, 1, .keep⟩ 0]).msc.get 3).state = .dueSoon
      ∧ (after [.setItem ⟨3, 7, 1, 255, 1, 1, .keep⟩ 0]).alt.records.length = 2 := by decide +kernel

/-- R138: with basis NONE the choice byte is not judged. -/
theorem test_item_none :
    requestOf 0x38 [3, 0, 7, 0, 255, 0, 0, 0, 1, 0, 0, 0, 0, 2] = some (.setItem ⟨3, 7, 0, 255, 1, 0, .keep⟩)
      ∧ requestOf 0x38 [3, 0, 7, 1, 255, 0, 0, 0, 1, 0, 0, 0, 0, 2] = some (.malformed 0x38) := by decide +kernel

/-- R178, R179: a SAVE starts a write, a second one creates the pending write; the first completion starts it. -/
theorem test_save :
    (after [.save 0, .replySent 0]).sst.inFlight.isSome = true
      ∧ (after [.save 0, .storeWriteComplete true 7]).lnk.order = [⟨some ⟨0xC8, .ok, []⟩, false⟩]
      ∧ (after [.save 0, .storeWriteComplete false 7]).lnk.order = [⟨some ⟨0xC8, .storeFault, []⟩, false⟩] := by
  decide +kernel

/-- R3: a return to the old level before the filter ticks have passed leaves no trace. -/
theorem test_filter :
    ((after [.pulseTransition .tl true 10]).track .tl).transition = some ⟨10, 2000⟩
      ∧ ((after [.pulseTransition .tl true 10, .pulseTransition .tl false 2009]).track .tl).transition = none := by
  decide +kernel

/-- The worked sequence of locking: five edges one second apart, each confirmed, lock the rotor channel and make the regime
IDLING (R6, R7, R78). -/
def fiveEdges : List Instr :=
  [0, 1, 2, 3, 4].flatMap fun k =>
    [.pulseTransition .tl true (10 + 2000000 * k), .countedEdge .tl, .pulseTransition .tl false (5000 + 2000000 * k)]

theorem test_locking :
    ((after fiveEdges).track .tl).lock = .locked ∧ ((after (fiveEdges.take 12)).track .tl).lock = .acquiring
      ∧ (after fiveEdges).rgc.regime = 1 := by decide +kernel

/-- R9: the deadline falls floor(3 × Tprev / 2) after the taking time of the last edge. -/
theorem test_virtual_edge :
    ((after (fiveEdges ++ [.virtualEdge .tl])).track .tl).lock = .holdover
      ∧ (after (fiveEdges ++ [.virtualEdge .tl])).now = 10 + 8000000 + 2000 + 3000000 := by decide +kernel

/-- R144: 40 ms is a pulse, one tick less a glitch. -/
theorem test_key :
    (after [.keyFall 100, .keyRise 80100]).skd.train = some 1 ∧ (after [.keyFall 100, .keyRise 80099]).skd.train = none := by
  decide +kernel

/-- R167: a length above 250 discards the frame silently. -/
theorem test_receiver :
    (after [.serialByte (.byte 0xC3) 0, .serialByte (.byte 251) 1]).lnk.receiver = .hunting
      ∧ (after [.serialByte (.byte 0xC3) 0, .serialByte (.byte 250) 1]).lnk.receiver = .receiving [250] 1 := by decide +kernel

/-- R110: staleness raises AMBIENT_STALE, NOTE, with threshold 600. -/
theorem test_ambient_stale :
    ((after [.fetch 0, .ambient ⟨0, 0, 0⟩ 0, .ambientStale]).alt.records.map fun r => (r.kind, r.severity, r.threshold))
      = [(.ambientStale, .note, some 600)] := by decide +kernel

/-! ### Witnesses: states and operands that meet the hypotheses of each statement, clause by clause
 -/

/-- `State.ServesAtOnce` as a check. -/
def serves (s : State) : Bool :=
  s.phase = .running && s.lnk.reset = .none && s.lnk.serving = none && s.lnk.order.length < orderCapacity
    && s.lnk.order.all fun p => p.reply.isSome

theorem serves_sound {s : State} (h : serves s = true) : s.ServesAtOnce := by
  simpa [serves, State.ServesAtOnce, and_assoc] using h

/-- Every statement about a request served at once: from reset, and with fifteen replies unsent. -/
theorem wit_serves_at_once :
    State.reset.ServesAtOnce ∧ (after (List.replicate 15 (.readTrack 3 0))).ServesAtOnce :=
  ⟨serves_sound (by decide +kernel), serves_sound (by decide +kernel)⟩

def queued : State := { State.reset with pending := [.fetch 5] }

/-- CommandsLeaveTheQueue. -/
theorem wit_a_command_completes : (∃ t, exec (.fetch 5) State.reset = .next t) ∧ ∃ t, step queued = .next t :=
  ⟨⟨_, rfl⟩, _, rfl⟩

/-- The statements that a step keeps the laws of alerts, snapshots, regimes, levels, the grid, icing, the service mode and the
link. -/
theorem wit_laws_met :
    AlertLaw queued ∧ SnapshotLaw queued ∧ RegimeLaw queued ∧ IcingLaw queued ∧ LinkLaw queued ∧ IndicatorLaw queued
      ∧ GridLaw queued ∧ ServiceLaw queued := by
  refine ⟨by unfold AlertLaw; decide +kernel, by unfold SnapshotLaw; decide +kernel, by unfold RegimeLaw; decide +kernel,
    by unfold IcingLaw; decide +kernel, by unfold LinkLaw; decide +kernel, by unfold IndicatorLaw; decide +kernel, ?_, ?_⟩
  · have none : ∀ g, queued.gra.inputs.get g = GridInput.afterStartUp := by decide +kernel
    refine ⟨by decide, by decide, fun _ h => by simp [queued, State.reset, Gra.afterStartUp] at h, fun g => ?_⟩
    simp [none g, GridInput.afterStartUp, LimitState.normal]
  · exact ⟨by decide, by simp [queued, State.reset, Skd.afterStartUp], by decide, by decide⟩

/-- TrackingLawKept and SettingsLawKept. -/
theorem wit_settings_law_met : SettingsLaw queued ∧ TrackingLaw queued ∧ GatheringLaw queued := by
  have contents : queued.contents.InRange :=
    ⟨by decide +kernel, by decide +kernel, by decide +kernel, by decide +kernel, by decide +kernel, by decide +kernel,
      by decide +kernel, by decide +kernel, by decide +kernel⟩
  have sav : ∀ va, (queued.sav.get va).buffer = none ∧ (queued.sav.get va).acc.length = 256
      ∧ (queued.sav.get va).samples ∈ [64, 128, 256] := by decide +kernel
  have grid : ∀ g, (queued.gra.inputs.get g).buffer = none := by decide +kernel
  exact ⟨⟨contents, ⟨fun _ h => by simp [queued, State.reset] at h, fun _ h => by simp [queued, State.reset] at h⟩,
    fun ch _ h => by (cases ch <;> cases h), by decide +kernel⟩, fun ch => by cases ch <;> (unfold TrackLaw; decide +kernel),
    fun ch _ h => by (cases ch <;> cases h), fun ch _ h => by (cases ch <;> cases h),
    fun va => ⟨fun _ h => by simp [(sav va).1] at h, (sav va).2⟩, fun g _ h => by simp [grid g] at h⟩

/-- ItemLawKept and AccruedFallsOnlyByService: an item of 2 counts loses them to a SERVICE_DONE. -/
def oldItem : Item := ⟨7, .ice, .none, 5, 0, 2, .running, none, none, 0⟩

def serviced : State :=
  { State.reset with msc := State.reset.msc.set 4 oldItem, skd := { State.reset.skd with mode := .service, hold := some 9 } }

theorem wit_accrued_falls :
    ItemLaw serviced ∧ ((outcome serviced (exec (.serviceDone 4 0) serviced)).msc.get 4).accrued < (serviced.msc.get 4).accrued :=
  ⟨⟨fun slot => ⟨by revert slot; unfold Item.Valid; decide +kernel, fun _ h => by simp [serviced, State.reset] at h⟩,
    fun _ h => by simp [serviced, State.reset] at h, fun _ => rfl,
    fun _ h => by simp [serviced, State.reset] at h, fun _ h => by simp [serviced, State.reset] at h⟩, by decide +kernel⟩

def icedState : State :=
  { State.reset with
    icm := { State.reset.icm with state := .iced, icestop := true }, skd := { State.reset.skd with mode := .service, hold := some 9 } }

/-- IcedEndsOnlyByThawOrRelease: a release under service hold. -/
theorem wit_iced_ends :
    icedState.icm.state.stops = true ∧ (outcome icedState (exec (.iceRelease 0) icedState)).icm.state = .clear := by
  decide +kernel

/-- TimeSetsFarmTime, at the largest farm time. -/
theorem wit_time : State.reset.ServesAtOnce ∧ 4294967295 ≤ 4294967295 := ⟨wit_serves_at_once.1, Nat.le_refl _⟩

def busy : State := after [.save 0]

/-- LaterRequestsWaitOrAreBusy: behind a SAVE, behind a waiting request, with 16 places, after a RESET, in start-up, without supply. -/
theorem wit_later_requests :
    (Instr.hello 1).request = some .hello
      ∧ (busy.phase = .running ∧ busy.lnk.reset = .none ∧ busy.lnk.order.length < 16 ∧ busy.lnk.serving = some .inFlight
          ∧ busy.lnk.waiting = none)
      ∧ (after [.save 0, .hello 0]).lnk.waiting.isSome = true
      ∧ 16 ≤ (after (List.replicate 16 (.readTrack 3 0))).lnk.order.length ∧ (after [.reset 0]).lnk.reset ≠ .none
      ∧ (after [.powerOn]).phase = .startup ∧ (after [.powerLoss 0]).phase = .off := by decide +kernel

/-- RefusedRequestsChangeNothing. -/
theorem wit_refused :
    (State.reset.answer (.readTrack 3)).2.status ≠ .ok ∧ (State.reset.answer (.readTrack 3)).2.status ≠ .staged
      ∧ (State.reset.answer (.readTrack 3)).2.status ≠ .empty := by decide +kernel

/-- RequestsAreReadBack and FramesReachService: fields at the ends of their widths. -/
theorem wit_frames :
    (Request.setTrack ⟨255, false, .falling, 255, 65535, 4294967295, 0, 65535⟩).wellFormed = true
      ∧ (Request.ambient ⟨-32768, 32767, 0⟩).wellFormed = true ∧ (Request.setCurve (List.replicate 62 ⟨65535, 0⟩)).wellFormed = true
      ∧ State.reset.lnk.receiver = .hunting ∧ State.reset.lnk.lineLow = false
      ∧ (ItemFields.mk 15 65535 0 255 4294967295 0 .keep).wellFormed = true := by decide +kernel

/-- The rotor channel in LOCKED at Z = 1 and at Z = 4, and in HOLDOVER. -/
def locked : State := after fiveEdges

def lockedZ : State := after (.setTrack { track0 with z := 4 } 0 :: fiveEdges)

def holding (s : State) : State := outcome s (exec (.virtualEdge .tl) s)

/-- The rotor input goes high. -/
def pulsed (s : State) (tick : Tick) : State := outcome s (exec (.pulseTransition .tl true tick) s)

/-- SetTrackStagesOrApplies: staged, applied, and refused by the channel and by a value. -/
theorem wit_set_track :
    (serves locked = true ∧ (⟨true, .rising, 64, 256, 1, 4294967295, 65535⟩ : TrackSettings).InRange .tl
        ∧ (locked.track .tl).lock.following = true)
      ∧ ((⟨true, .rising, 1, 64, 30770, 44444, 65535⟩ : TrackSettings).InRange .tg
        ∧ (State.reset.track .tg).lock.following = false)
      ∧ ¬(⟨true, .rising, 1, 64, 30769, 44444, 0⟩ : TrackSettings).InRange .tg
      ∧ ¬(⟨true, .rising, 3, 256, 1, 2, 0⟩ : TrackSettings).InRange .tl
      ∧ ¬(⟨true, .rising, 1, 256, 2, 2, 0⟩ : TrackSettings).InRange .tl := by
  refine ⟨⟨?_, ?_, ?_⟩, ⟨?_, ?_⟩, ?_, ?_, ?_⟩ <;> decide +kernel

def scanOf (l : List ScanEntryField) (tl th tg : Nat) : ScanFields :=
  ⟨Tab.ofFn fun i => l.getD i.val ⟨255, false⟩, tl, th, tg⟩

/-- SetScanReplacesTheTable: accepted, with an open revolution, an input that loses its owner and a grid input that leaves; refused
by a number, by a list without a stop mark, and by a shared entry. -/
def tableOf (l : List ScanEntry) (tl th tg : Option (Fin 24)) : ScanTable :=
  ⟨Tab.ofFn fun i => l.getD i.val ⟨none, false⟩, tl, th, tg⟩

theorem wit_set_scan :
    (let t := tableOf [⟨some (.va 0), true⟩, ⟨some (.va 5), true⟩, ⟨some (.gi 2), true⟩] (some 0) (some 1) (some 2)
     let lists : PerChannel (List Input) := ⟨[.va 0], [.va 5], [.gi 2]⟩
     t.CarriedBy (scanOf [⟨0, true⟩, ⟨5, true⟩, ⟨11, true⟩] 0 1 2)
       ∧ (∀ ch ∈ [Channel.tl, .th, .tg], t.Lists ch (lists.get ch)) ∧ (lists.tl ++ lists.th ++ lists.tg).Nodup)
      ∧ ¬NumbersInRange (scanOf [⟨12, true⟩] 0 255 255) ∧ ¬NumbersInRange (scanOf [⟨0, true⟩] 24 255 255)
      ∧ (tableOf [⟨some (.va 0), false⟩] (some 0) none none).CarriedBy (scanOf [⟨0, false⟩] 0 255 255)
      ∧ (let t := tableOf [⟨some (.va 0), true⟩] (some 0) (some 0) none
         t.CarriedBy (scanOf [⟨0, true⟩] 0 0 255)
           ∧ t.Lists .tl [.va 0] ∧ t.Lists .th [.va 0] ∧ t.Lists .tg [] ∧ ¬([.va 0] ++ [.va 0] ++ [] : List Input).Nodup)
      ∧ serves locked = true ∧ (locked.track .tl).rev.isSome = true ∧ (locked.sav.get 1).owner = some .tl
      ∧ gridInputOf 0 ∈ locked.scanList .tg := by
  refine ⟨⟨?_, ?_, ?_⟩, ?_, ?_, ?_, ⟨?_, ?_, ?_, ?_, ?_⟩, ?_, ?_, ?_, ?_⟩ <;> decide +kernel

/-- A list whose first entry, without a stop mark, is followed by an empty one is no list of any length. -/
theorem wit_set_scan_endless :
    ∀ l, ¬(tableOf [⟨some (.va 0), false⟩] (some 0) none none).Lists .tl l := by
  rintro l ⟨-, h, -⟩
  obtain ⟨h1, -, h⟩ := h 0 rfl
  have first := (h 0 h1).2
  rcases Nat.lt_or_ge 1 l.length with two | one
  · have second := (h 1 two).1
    rw [List.getElem?_eq_getElem two] at second
    exact absurd second (by simp [tableOf, Tab.ofFn])
  · have : l.length = 1 := Nat.le_antisymm one h1
    rw [this] at first
    exact absurd first (by decide)

/-- SetInputReplacesTheSettings, at the ends of its ranges. -/
theorem wit_set_input :
    (⟨8, ⟨[127, 0, 0, 1], rfl⟩⟩ : InputSettings).InRange ∧ ¬(⟨9, ⟨[1, 2, 3, 4], rfl⟩⟩ : InputSettings).InRange
      ∧ ¬(⟨8, ⟨[128, 2, 3, 4], rfl⟩⟩ : InputSettings).InRange ∧ ¬(⟨8, ⟨[2, 2, 3, 4], rfl⟩⟩ : InputSettings).InRange
      ∧ 6 ≤ (InputFields.mk 6 8 ⟨[1, 2, 3, 4], rfl⟩).input := by decide

/-- ClearAverageEmptiesRecords: the last input, all, and the numbers next to them. -/
theorem wit_clear_average : (5 < 6 ∧ (255 = 255)) ∧ 6 ≤ 6 ∧ 6 ≠ 255 ∧ 6 ≤ 254 ∧ 254 ≠ 255 := by decide

/-- SettingsAreReplacedWhole: SET_ICE in range at the ends, and out of range. -/
theorem wit_set_ice :
    (⟨480, 100, 999, 9999, 300, 65535, 65535, 5⟩ : IceSettings).InRange ∧ (⟨-500, 0, 0, 0, 10, 1, 1, 0⟩ : IceSettings).InRange
      ∧ ¬{ IceSettings.defaults with tice := 481 }.InRange ∧ ¬{ IceSettings.defaults with period := 9 }.InRange
      ∧ ¬{ IceSettings.defaults with tConfirm := 0 }.InRange ∧ 6 ≤ { ice0 with iceInput := 6 }.iceInput := by decide

/-- RegimeAndProfilesAreSet: SET_PROFILE in range at the ends, and out of range. -/
theorem wit_set_profile :
    (⟨Tab.replicate 8 ⟨0, 65535⟩, 15⟩ : Row).InRange ∧ ¬(⟨Tab.replicate 8 ⟨300, 900⟩, 16⟩ : Row).InRange
      ∧ ¬(⟨Tab.replicate 8 ⟨900, 900⟩, 3⟩ : Row).InRange ∧ 8 ≤ 8 := by decide

/-- IceReleaseIsJudged: CLEAR, ICED in NORMAL, and ICED under service hold, without and with a write in flight. -/
theorem wit_ice_release :
    State.reset.icm.state.stops = false
      ∧ (let s := { icedState with skd := State.reset.skd }
         serves s = true ∧ s.icm.state.stops = true ∧ s.skd.mode = .normal)
      ∧ (serves icedState = true ∧ icedState.icm.state.stops = true ∧ icedState.skd.mode ≠ .normal ∧ icedState.sst.inFlight = none)
      ∧ (let s := { icedState with sst := { icedState.sst with inFlight := some ⟨Image.defaults, 0⟩ } }
         serves s = true ∧ s.icm.state.stops = true ∧ s.skd.mode ≠ .normal ∧ s.sst.inFlight.isSome = true) := by decide +kernel

/-- SetItemWritesTheSlot: a DAMAGE item at the largest interval and lead, and the refusals next to them. -/
theorem wit_set_item :
    (let named (n : Nat) := [Basis.none, .operating, .revolutions, .energy, .damage, .ice, .calendar][n]?
     named 4 = some .damage ∧ named 7 = none)
      ∧ ([0, 1, 2, 3, 4, 5] : List (Fin 6))[6]? = none ∧ [Channel.tl, .th][2]? = none ∧ itemStateOf 3600 3600 0 = .dueSoon := by
  decide

/-- ServiceDoneRecordsAService: each outcome's conditions. -/
theorem wit_service_done :
    serves serviced = true ∧ serviced.skd.mode ≠ .normal ∧ (serviced.msc.get 4).basis ≠ .none
      ∧ (serviced.msc.get 15).basis = .none ∧ State.reset.skd.mode = .normal
      ∧ ((serviced.setItem 0 { oldItem with basis := .calendar }).msc.get 0).basis = .calendar ∧ serviced.clk.farm = none := by
  decide +kernel

/-- SnapshotsAreReadAndPopped: an empty stack, and one with a snapshot. -/
def shot : Snapshot := ⟨1, 0, none, false, false, .grid 0 (List.replicate 25 3) 0 none⟩

theorem wit_snapshots :
    State.reset.sns.stack = []
      ∧ serves { State.reset with sns := ⟨[shot], 2⟩ } = true ∧ [shot] = ([] : List Snapshot) ++ [shot] := by decide +kernel

/-- SaveAndResetAreServed, with no write in flight and with one whose SAVE has been answered. -/
theorem wit_save :
    State.reset.sst.inFlight = none
      ∧ serves (after [.save 0, .save 0, .storeWriteComplete true 0, .storeWriteComplete true 0, .save 0, .save 0,
        .storeWriteComplete true 0, .storeWriteComplete true 0]) = true
      ∧ (let s := { State.reset with sst := { State.reset.sst with inFlight := some ⟨Image.defaults, 0⟩ } }
         serves s = true ∧ s.sst.inFlight.isSome = true) := by decide +kernel

/-- StartUpLoadsImageOrDefaults: a RESET that may begin, and each condition that keeps it from beginning. -/
def replied : State := after [.reset 0, .replySent 0]

theorem wit_reset_begin :
    (replied.phase = .running ∧ replied.lnk.reset = .replied ∧ replied.sst.inFlight = none ∧ replied.sst.pendingWrite = false)
      ∧ (after [.powerOn]).phase ≠ .running ∧ State.reset.lnk.reset ≠ .replied ∧ busy.sst.inFlight.isSome = true
      ∧ (after [.save 0, .save 0, .serialByte (.byte 0) 0]).phase = .running := by decide +kernel

/-- StartupEndsAndPowerIsLost. -/
theorem wit_startup_end :
    (after [.powerOn]).phase = .startup ∧ State.reset.phase ≠ .startup ∧ State.reset.phase ≠ .off
      ∧ (after [.powerLoss 0]).phase = .off := by decide +kernel

/-- PulseEntersFilter: a level that stands and one that changes. `wit_startup_end` has the other phases. -/
theorem wit_pulse : State.reset.phase = .running ∧ (State.reset.track .tl).line = false ∧ (State.reset.track .tl).line ≠ true := by
  decide

/-- AcquiringCountsConsistentIntervals: without a reference, with one, and STALLED. -/
theorem wit_acquiring :
    (let s := pulsed State.reset 10
     s.phase = .running ∧ (s.track .tl).transition = some ⟨10, 2000⟩ ∧ (s.track .tl).lock = .acquiring ∧ (s.track .tl).ref = none)
      ∧ (let s := pulsed (after (fiveEdges.take 9)) 6000010
         (s.track .tl).transition = some ⟨6000010, 2000⟩ ∧ (s.track .tl).lock = .acquiring ∧ (s.track .tl).ref = some 4000010
           ∧ (s.track .tl).countThrough 2000000 = 3)
      ∧ (let s := pulsed (after (fiveEdges ++ [.virtualEdge .tl, .holdoverDeadline .tl])) 20000000
         (s.track .tl).transition = some ⟨20000000, 2000⟩ ∧ (s.track .tl).lock = .stalled) := by decide +kernel

/-- FourthIntervalLocks. -/
theorem wit_fourth :
    (let s := pulsed (after (fiveEdges.take 12)) 8000010
     s.phase = .running ∧ (s.track .tl).transition = some ⟨8000010, 2000⟩ ∧ (s.track .tl).lock = .acquiring
       ∧ (s.track .tl).ref = some 6000010 ∧ 4 ≤ (s.track .tl).countThrough 2000000) := by decide +kernel

/-- EdgeInsideRevolution and EdgeClosesRevolution: a counted edge in LOCKED at the shortest interval. -/
theorem wit_locked_edge :
    (∃ e, EdgeComes (pulsed lockedZ 10000010) .tl (.countedEdge .tl) e)
      ∧ ((pulsed lockedZ 10000010).track .tl).nextIndex = 1
      ∧ (∃ e, EdgeComes (pulsed locked 10000010) .tl (.countedEdge .tl) e) ∧ ((pulsed locked 10000010).track .tl).nextIndex = 0
      ∧ ((pulsed locked 10000010).track .tl).rev.isSome = true ∧ ((pulsed locked 10000010).track .tl).staged = none
      ∧ (pulsed locked 10000010).phase = .running := by
  refine ⟨⟨_, .inl ⟨⟨10000010, 2000⟩, 8000010, rfl, ?_, ?_, ?_, ?_, ?_, ?_, rfl⟩⟩, by decide +kernel,
    ⟨_, .inl ⟨⟨10000010, 2000⟩, 8000010, rfl, ?_, ?_, ?_, ?_, ?_, ?_, rfl⟩⟩, by decide +kernel, by decide +kernel,
    by decide +kernel, by decide +kernel⟩ <;> decide +kernel

/-- EdgeClosesRevolution: staged settings that keep the channel in LOCKED, and that do not by Z or by edge; and no open revolution,
after a SET_SCAN. -/
def staging (f : TrackFields) : State := pulsed (outcome locked (exec (.setTrack f 9000000) locked)) 10000010

theorem wit_staged_edge :
    (∃ e, EdgeComes (staging { track0 with n := 64 }) .tl (.countedEdge .tl) e)
      ∧ ((staging { track0 with n := 64 }).track .tl).rev.isSome = true
      ∧ ((staging { track0 with n := 64 }).track .tl).staged.any (fun new => locked.trk.tl.settings.keepsLock new
          ∧ locked.trk.tl.settings.recuts new) = true
      ∧ ((staging { track0 with z := 2 }).track .tl).staged.any (fun new => !decide (locked.trk.tl.settings.keepsLock new)) = true
      ∧ ((staging { track0 with n := 64, edge := .falling }).track .tl).staged.any (fun new =>
          !decide (locked.trk.tl.settings.keepsLock new)) = true
      ∧ (let s := pulsed (outcome locked (exec (.setScan scan0 9000000) locked)) 10000010
         (∃ e, EdgeComes s .tl (.countedEdge .tl) e) ∧ (s.track .tl).nextIndex = 0 ∧ (s.track .tl).rev = none) := by
  refine ⟨⟨_, .inl ⟨⟨10000010, 2000⟩, 8000010, rfl, ?_, ?_, ?_, ?_, ?_, ?_, rfl⟩⟩, by decide +kernel, by decide +kernel,
    by decide +kernel, by decide +kernel,
    ⟨_, .inl ⟨⟨10000010, 2000⟩, 8000010, rfl, ?_, ?_, ?_, ?_, ?_, ?_, rfl⟩⟩, by decide +kernel, by decide +kernel⟩ <;>
    decide +kernel

/-- EdgeInsideRevolution and EdgeClosesRevolution: the deadline in LOCKED. -/
theorem wit_virtual_edge :
    (∃ e, EdgeComes lockedZ .tl (.virtualEdge .tl) e) ∧ (lockedZ.track .tl).nextIndex = 1
      ∧ (∃ e, EdgeComes locked .tl (.virtualEdge .tl) e) ∧ (locked.track .tl).nextIndex = 0 := by
  refine ⟨⟨_, .inr (.inl ⟨8002010, 2000000, rfl, ?_, ?_, ?_, rfl⟩)⟩, by decide +kernel,
    ⟨_, .inr (.inl ⟨8002010, 2000000, rfl, ?_, ?_, ?_, rfl⟩)⟩, by decide +kernel⟩ <;> decide +kernel

/-- EdgeInsideRevolution and EdgeClosesRevolution: a counted edge in HOLDOVER. -/
theorem wit_holdover_edge :
    (∃ e, EdgeComes (pulsed (holding lockedZ) 12000000) .tl (.countedEdge .tl) e)
      ∧ ((pulsed (holding lockedZ) 12000000).track .tl).nextIndex = 2
      ∧ (∃ e, EdgeComes (pulsed (holding locked) 12000000) .tl (.countedEdge .tl) e)
      ∧ ((pulsed (holding locked) 12000000).track .tl).nextIndex = 0
      ∧ ((pulsed (holding locked) 12000000).track .tl).rev.isSome = true := by
  refine ⟨⟨_, .inr (.inr ⟨⟨12000000, 2000⟩, 2000000, rfl, ?_, ?_, ?_, rfl⟩)⟩, by decide +kernel,
    ⟨_, .inr (.inr ⟨⟨12000000, 2000⟩, 2000000, rfl, ?_, ?_, ?_, rfl⟩)⟩, by decide +kernel, by decide +kernel⟩ <;> decide +kernel

/-- The grid channel in LOCKED, its input high for the next pulse. -/
def lockedTg (next : Tick) : State :=
  after ([0, 1, 2, 3, 4].flatMap (fun k =>
    [.pulseTransition .tg true (10 + 40000 * k), .countedEdge .tg, .pulseTransition .tg false (1000 + 40000 * k)])
    ++ [.pulseTransition .tg true next])

/-- EdgeOutsideWindowLosesLock: one tick too short on TL, without and with staged settings, and one tick too short and too long on
TG. -/
theorem wit_outside :
    (let s := pulsed locked 10000009
     s.phase = .running ∧ (s.track .tl).lock = .locked ∧ (s.track .tl).transition = some ⟨10000009, 2000⟩
       ∧ (s.track .tl).ref = some 8000010 ∧ 1999999 < (s.track .tl).settings.tmin ∧ (s.track .tl).staged = none)
      ∧ ((pulsed (outcome locked (exec (.setTrack { track0 with n := 64 } 9000000) locked)) 10000009).track .tl).staged.isSome = true
      ∧ (let t := (lockedTg 190779).track .tg
         t.lock = .locked ∧ t.transition = some ⟨190779, 400⟩ ∧ t.ref = some 160010 ∧ 30769 < t.settings.tmin
           ∧ t.settings.tmin = 30770 ∧ t.settings.tmax = 44444)
      ∧ (let t := (lockedTg 204455).track .tg
         t.lock = .locked ∧ t.transition = some ⟨204455, 400⟩ ∧ t.settings.tmax < 44445) := by decide +kernel

/-- HoldoverDeadlineStalls, without and with staged settings. -/
theorem wit_stall :
    (holding locked).phase = .running ∧ ((holding locked).track .tl).lock = .holdover
      ∧ ((holding locked).track .tl).deadlineFrom = some 11002010 ∧ ((holding locked).track .tl).tprev = some 2000000
      ∧ ((holding locked).track .tl).staged = none
      ∧ (let s := outcome (holding locked) (exec (.setTrack { track0 with z := 2 } 11100000) (holding locked))
         (s.track .tl).lock = .holdover ∧ (s.track .tl).staged.isSome = true) := by decide +kernel

/-- StrobeCreatesScan: with a list and a free converter, with a scan pending whose first entry is being converted, and without a
list. -/
theorem wit_strobe :
    (let s := after (fiveEdges ++ [.conversionComplete 0, .conversionComplete 0])
     s.phase = .running ∧ (s.track .tl).strobes = some ⟨8002010, 2000000, 256, 0, 1⟩ ∧ (s.track .tl).rev.isSome = true
       ∧ s.scanList .tl = [.va 0, .va 1] ∧ s.acq.scans = ⟨none, none, none⟩ ∧ s.acq.converter = none)
      ∧ (let s := outcome locked (exec (.setScan scan0 8003000) locked)
         s.scanList .tl = [] ∧ (s.track .tl).rev = none ∧ 1 < 256)
      ∧ locked.acq.scans.tl.any (fun sc => sc.entries = [.va 0, .va 1] ∧ sc.entries.Nodup ∧ sc.position = 1) = true
      ∧ locked.acq.converter.any (fun c => c.rev.channel = .tl) = true := by decide +kernel

/-- R30: scans created at one instant all exist before the arbiter chooses. The rotor's strobe ends its own scan by overrun and starts
again; the high-speed shaft's, at the same tick, goes first. -/
theorem test_choice_after_overrun :
    (let opened (ch : Channel) : Track :=
       { State.reset.track ch with
         lock := .locked, rev := some ⟨⟨ch, 0⟩, 64, false, false, 0, 0⟩, strobes := some ⟨100, 32, 64, 0, 0⟩ }
     let s := { State.reset with trk := ⟨opened .tl, opened .th, opened .tg⟩ }
     let t := [Instr.strobe .tl, .strobe .tl, .strobe .th].foldl (fun s c => outcome s (exec c s)) s
     (t.acq.converter.map fun c => (c.rev.channel, c.began)) = some (.th, 100)
       ∧ (t.acq.scans.tl.map Scan.position) = some 0) := by decide +kernel

/-- ConversionDelivers: with an entry left, and at the last entry. -/
theorem wit_conversion :
    (let c := locked.acq.converter.getD ⟨⟨.tg, 0⟩, 0, .va 5, 0, none, false⟩
     locked.phase = .running ∧ locked.acq.converter = some c ∧ c.rev.channel = .tl ∧ locked.acq.scans.th = none
       ∧ locked.acq.scans.tg = none ∧ (locked.acq.scans.tl.bind fun sc => sc.entries[sc.position]?) = some (.va 1))
      ∧ (let s := outcome locked (exec (.conversionComplete 0) locked)
         s.acq.converter.isSome = true ∧ s.acq.scans.tl.any (fun sc => sc.entries.length ≤ sc.position) = true) := by
  decide +kernel

/-- AverageMovesTowardRevolution: the record's N, another N, and a buffer with two slots filled. -/
theorem wit_average :
    (let v := Sav.afterStartUp InputSettings.defaults (some .tl) 64
     (List.replicate 64 (5 : Int)).length = v.samples ∧ v.samples ≤ v.acc.length ∧ (List.replicate 128 (5 : Int)).length ≠ v.samples)
      ∧ RisingSlots (some ⟨⟨.tl, 0⟩, [⟨0, 5, false, false⟩, ⟨63, 32767, false, true⟩], 1⟩) := by
  refine ⟨by decide +kernel, ?_⟩
  unfold RisingSlots
  decide +kernel

/-- A computation over a constant record of 1,000 on VA0, judged by levels 300 and 900 with P = 1. -/
def computing : State :=
  let c : Copies := ⟨1, 64, 1, true, List.replicate 64 1000, List.replicate 64 1000⟩
  { (outcome State.reset (exec (.setProfile { profile0 with persistence := 1, levels := Tab.replicate 8 ⟨0, 0⟩ |>.set 1 ⟨300, 900⟩ } 0)
      State.reset)) with
    ind := State.reset.ind.set 0 { Ind.afterStartUp with computing := some ⟨c, ⟨[0, 0, 0, 0], rfl⟩, 0⟩ } }

/-- ComputationEndReplacesSet: one rise to ALARM, of the peak, which takes part, as an UNUSED order does not, and which weighs 8 in
NORMAL; and the same in SERVICE, where it weighs nothing. -/
theorem wit_computation :
    computing.phase = .running ∧ (computing.ind.get 0).computing.isSome = true
      ∧ (∀ c ∈ (computing.ind.get 0).computing,
          let levels := evaluatedLevels c.result (computing.sav.get 0).settings.orders (computing.row 0 0)
            (computing.ind.get 0).levels
          c.result.partOf (computing.sav.get 0).settings.orders 1 = some 1000 ∧ computing.skd.mode = .normal
            ∧ computing.reclassified 0 1 = false ∧ (levels.get 1).level = .alarm
            ∧ ∀ j, j ≠ 1 → (levels.get j).level = .normal)
      ∧ (∀ c ∈ (computing.ind.get 0).computing,
          c.result.warm = true ∧ c.result.values.get 1 = .value 1000 ∧ c.result.values.get 4 = .unused)
      ∧ computing.sns.stack.length < 6
      ∧ (let s := { computing with skd := serviced.skd }
         s.phase = .running ∧ (s.ind.get 0).computing.isSome = true ∧ s.skd.mode = .service) := by decide +kernel

/-- R102 to R104: in ICED the order 1 of ICE_INPUT falls from ALARM: ICE_IMBALANCE NOTE with the threshold of the level left, no
snapshot, and DAMAGE by the levels that are left. -/
theorem test_reclassified_drop :
    (let s := { computing with
       icm := { computing.icm with state := .iced, icestop := true }
       sav := computing.sav.set 0 { computing.sav.get 0 with settings := ⟨0, ⟨[1, 0, 0, 0], rfl⟩⟩ }
       rgc := (outcome computing (exec (.setProfile { profile0 with
         persistence := 1, levels := Tab.replicate 8 ⟨0, 0⟩ |>.set 4 ⟨300, 900⟩ } 0) computing)).rgc
       ind := computing.ind.set 0 { computing.ind.get 0 with
         levels := Tab.replicate 8 ⟨.normal, 0, 0⟩ |>.set 4 ⟨.alarm, 0, 0⟩
         computing := some ⟨⟨1, 64, 1, true, List.replicate 64 1000, List.replicate 64 1000⟩, ⟨[1, 0, 0, 0], rfl⟩, 0⟩ }
       msc := computing.msc.set 3 ⟨3, .damage, .va 0, 5, 2, 0, .running, none, none, 0⟩ }
     let t := outcome s (exec (.indicatorComputationEnd 0 0) s)
     (t.alt.records.drop 1).map (fun r => (r.kind, r.severity, r.detail, r.threshold, r.snapshot))
         = [(.iceImbalance, .note, some 0, some 900, .absent)]
       ∧ (t.msc.get 3).accrued = 0 ∧ t.sns.stack = [] ∧ t.icm.gathered = some ⟨0, some .tl⟩) := by decide +kernel

/-- FreshnessExpires: known power and a fresh record, and neither. -/
theorem wit_freshness :
    (let s := { State.reset with gra := { State.reset.gra with power := some ⟨5, 0⟩ } }
     s.phase = .running ∧ s.gra.power = some ⟨5, 0⟩)
      ∧ State.reset.gra.power = none ∧ State.reset.icm.ambient = none
      ∧ ((after [.ambient ⟨0, 0, 0⟩ 9]).icm.ambient.any Ambient.fresh) = true := by decide +kernel

/-- EqualClassesMoveTheRegime: with TL locked, without a candidate, with an equal one and with another. -/
theorem wit_classes :
    locked.trk.tl.lock.following = true ∧ locked.rgc.candidate = none ∧ State.reset.trk.tl.lock.following = false
      ∧ powerClass locked.rgc.settings.breakpoints 50 = 2 ∧ (Candidate.mk 2 1).regime = 2 ∧ (Candidate.mk 3 1).regime ≠ 2 := by
  decide +kernel

/-- EnergyBecomesKilowattHours: an accrued count at its largest, cycle buffers in slot order, and orders of which one exceeds. -/
theorem wit_energy :
    ({ oldItem with accrued := 4294967295 } : Item).accrued ≤ 4294967295
      ∧ (∀ g, RisingSlots ((lockedTg 190779).gra.inputs.get g).buffer)
      ∧ ((lockedTg 190779).gra.inputs.get 0).buffer.isSome = true
      ∧ worstOrder [100, 0, 7] (exceedingOrders ⟨Tab.replicate 24 60, 80, 0, 0⟩ [100, 0, 7]) = some 3
      ∧ worstOrder [100, 0, 6] (exceedingOrders ⟨Tab.replicate 24 60, 80, 0, 0⟩ [100, 0, 6]) = none := by
  unfold RisingSlots
  decide +kernel

/-- AlertsMergeJoinEvictOrDrop: a merge, a join, an eviction of a NOTE, an eviction of a WARN by an ALARM, and a drop, of an ALARM
and of a WARN. -/
def full (v : Severity) : List AlertRecord :=
  (List.range 32).map fun k => { AlertRecord.storeDefaults with seq := k, severity := v, sub := some k }

theorem wit_alerts :
    AlertRecord.storeDefaults.repeats = 1 ∧ AlertRecord.storeDefaults.same AlertRecord.storeDefaults = true
      ∧ (let a := { AlertRecord.storeDefaults with severity := .alarm }
         ([Severity.note, .warn, .alarm].all fun v =>
             (full v).length = 32 && (full v).all fun q => !q.same a && !q.same AlertRecord.storeDefaults) = true
           ∧ (∃ r after, full .note = [] ++ r :: after ∧ r.severity = .note)
           ∧ (a.severity = .alarm ∧ ∃ r after, full .warn = [] ++ r :: after ∧ r.severity = .warn
             ∧ ∀ q ∈ [] ++ after, q.severity ≠ .note)
           ∧ (∀ q ∈ full .alarm, q.severity = .alarm)
           ∧ AlertRecord.storeDefaults.severity ≠ .alarm ∧ ∀ q ∈ full .warn, q.severity = .warn) := by
  refine ⟨rfl, by decide, by decide +kernel, ⟨_, _, rfl, rfl⟩, ⟨rfl, _, _, rfl, rfl, ?_⟩, ?_, ?_, ?_⟩ <;> decide +kernel

/-- DeviceSecondAdvances: in each phase, and at the 3,600th advance with and without a write in flight. -/
theorem wit_second :
    State.reset.phase = .running ∧ State.reset.sst.autosave + 1 < 3600
      ∧ 3600 ≤ ({ State.reset.sst with autosave := 3599 } : Sst).autosave + 1 ∧ busy.sst.inFlight.isSome = true
      ∧ (after [.powerOn]).phase = .startup ∧ (after [.powerLoss 0]).phase = .off := by decide +kernel

/-- ExpectedPowerFollowsCurve: below, at the first point, between, and at the last point. -/
theorem wit_curve :
    (let c : List CurvePoint := [⟨50, 200⟩, ⟨80, 900⟩]
     2 ≤ c.length ∧ c.Pairwise (fun p q => p.wind < q.wind) ∧ (49 : Int) < 50 ∧ (50 : Int) ≤ 79 ∧ (79 : Int) < 80
       ∧ (c.all fun p => p.power ≤ 32767) = true) := by decide

/-- EvaluationMovesTheIcingState: CLEAR that stays, CLEAR that moves to WATCH, and CLEAR that learns; WATCH and SUSPECT that stay;
SUSPECT that enters ICED; and THAW that returns to ICED or ends. -/
def coldState (temperature : Int) : State :=
  { locked with
    rgc := { locked.rgc with regime := 2 }
    icm := { locked.icm with ambient := some ⟨temperature, 90, 0, 0, true⟩, gathered := some ⟨40, some .tl⟩ } }

theorem wit_evaluation :
    (let s := coldState 10
     s.phase = .running ∧ s.icm.nextEval = some 60000000 ∧ s.icm.stateAfter s.icm.cold none none (some 10) = .watch)
      ∧ (let s := coldState 11
         s.icm.cold = some false ∧ 2 ≤ s.rgc.regime.val ∧ s.icm.evaluatedO1 s.skd.mode = some 40
           ∧ s.icm.stateAfter s.icm.cold none none (some 11) = .clear)
      ∧ ({ State.reset.icm with state := .iced } : Icm).stateAfter none none none (some 30) = .thaw
      ∧ ({ State.reset.icm with state := .watch, e1 := 2 } : Icm).stateAfter (some true) (some true) none none = .suspect
      ∧ ({ State.reset.icm with state := .watch, e1 := 1 } : Icm).stateAfter (some true) (some true) none none = .watch
      ∧ ({ State.reset.icm with state := .suspect, e2 := 2, runKind := some .confirm } : Icm).stateAfter none (some true) (some true)
          none = .iced
      ∧ ({ State.reset.icm with state := .suspect, e2 := 2, runKind := some .confirm } : Icm).stateAfter none (some false)
          (some false) none = .suspect
      ∧ ({ State.reset.icm with state := .thaw } : Icm).stateAfter none none none (some 10) = .iced
      ∧ ({ State.reset.icm with state := .thaw, tThaw := .elapsed } : Icm).stateAfter none none none (some 11) = .clear := by
  decide +kernel

/-- IcingTimersExpire: SUSPECT with and without COLD false, and THAW above and at Tice. -/
def suspected (temperature : Int) : State :=
  { State.reset with
    icm := { State.reset.icm with state := .suspect, tConfirm := some 5, ambient := some ⟨temperature, 90, 0, 0, true⟩ } }

def thawing (temperature : Int) : State :=
  { State.reset with
    icm := { State.reset.icm with
      state := .thaw, icestop := true, tThaw := .running 5, ambient := some ⟨temperature, 90, 0, 0, true⟩ } }

theorem wit_icing_timers :
    ((suspected 11).phase = .running ∧ (suspected 11).icm.state = .suspect ∧ (suspected 11).icm.tConfirm = some 5
        ∧ (suspected 11).icm.cold = some false)
      ∧ (suspected 10).icm.cold ≠ some false
      ∧ (∀ slot, ((suspected 10).msc.get slot).basis ≠ .ice) ∧ ((suspected 10).sav.get 0).n = 0
      ∧ ((thawing 11).icm.state = .thaw ∧ (thawing 11).icm.tThaw = .running 5 ∧ (thawing 11).icm.knownTemperature = some 11
        ∧ (thawing 11).icm.settings.tice < 11)
      ∧ (thawing 10).icm.knownTemperature = some 10 ∧ (10 : Int) ≤ (thawing 10).icm.settings.tice := by decide +kernel

/-- KeyLowPeriodsAreJudged: KEY high, low, and low since start-up. `wit_startup_end` has the other phases. -/
theorem wit_key :
    State.reset.skd.low = false ∧ (after [.keyFall 7]).skd.low = true ∧ (after [.keyFall 7]).skd.fellAt = some 7
      ∧ (let k := (after [.powerOn, .keyFall 3, .startupEnd 5]).skd
         k.low = true ∧ k.fellAt = none ∧ k.awaitRise = true) := by decide +kernel

/-- TrainsAndHoldMoveTheMode: an open train with KEY high, and a running hold timer. -/
theorem wit_train :
    (let s := after [.keyFall 100, .keyRise 80100]
     s.phase = .running ∧ s.skd.low = false ∧ s.skd.train = some 1 ∧ s.skd.roseAt = some 80100)
      ∧ (serviced.phase = .running ∧ serviced.skd.hold = some 9 ∧ serviced.skd.mode ≠ .normal) := by decide +kernel

/-- A receiver that holds all of a frame of no payload and of this type but its last byte. -/
def framed (type : Byte) : Receiver := .receiving (0 :: type :: (crcBytes [0, type]).take 1) 0

/-- ReceiverActsOnEachArrival: each state of the receiver, a complete frame that is a HELLO, one of no known type and one of a length
not allowed, with the line free and with 16 places held or a RESET served, and a break. -/
theorem wit_receiver :
    State.reset.lnk.lineLow = false ∧ State.reset.lnk.receiver = .hunting
      ∧ (after [.serialByte (.byte 0xC3) 0]).lnk.receiver = .receiving [] 0
      ∧ (after [.serialByte (.byte 0xC3) 0, .serialByte (.byte 0) 0]).lnk.receiver = .receiving [0] 0
      ∧ ([] : List Byte).length + 2 < (0 : Byte).toNat + 4
      ∧ (after [.serialByte (.fault true) 0]).lnk.lineLow = true
      ∧ (after ([0xC3, 0, 1].map fun b => .serialByte (.byte b) 0)).lnk.receiver = .receiving [0, 1] 0
      ∧ (framed 1).partial = true ∧ requestOf 1 [] = some .hello ∧ allowedLength 1 [] = some 0 ∧ allowedLength 3 [] = some 4
      ∧ (3 : Nat) ∈ [0x01, 0x02, 0x03] ∧ requestOf 4 [] = none ∧ State.reset.lnk.order.length < 16
      ∧ State.reset.lnk.reset = .none ∧ 16 ≤ (after (List.replicate 16 (.readTrack 3 0))).lnk.order.length
      ∧ (after [.reset 0]).lnk.reset ≠ .none := by decide +kernel

/-- R168: a wrong CRC, an unknown type and a length not allowed are answered BAD_FRAME and BAD_TYPE with type 0xFF, and BAD_LENGTH with
the request's own. -/
theorem test_frame_checks :
    (let last (type : Byte) := ((crcBytes [0, type]).drop 1).headD 0
     let reply (type b : Byte) :=
       let s := { State.reset with lnk := { State.reset.lnk with receiver := framed type } }
       (outcome s (exec (.serialByte (.byte b) 0) s)).lnk.order
     reply 1 (last 1 ^^^ 1) = [⟨some ⟨0xFF, .badFrame, []⟩, false⟩] ∧ reply 4 (last 4) = [⟨some ⟨0xFF, .badType, []⟩, false⟩]
       ∧ reply 3 (last 3) = [⟨some ⟨0x83, .badLength, []⟩, false⟩]) := by decide +kernel

/-- ReplySentFreesItsPlace: the reply of a RESET, with another behind it. -/
theorem wit_reply_sent :
    (let l := (after [.hello 0, .reset 0]).lnk
     l.sending.isSome = true ∧ l.order.length = 2 ∧ (l.order.map Place.resets) = [false, true]) := by decide +kernel

/-- StoreWriteCompletes: no SAVE served, one that waits for the pending write, and one whose write is in flight, without and with a
request that waits behind it. -/
theorem wit_store_write :
    (let s := outcome icedState (exec (.iceRelease 0) icedState)
     s.phase = .running ∧ s.sst.inFlight.isSome = true ∧ s.lnk.serving = none)
      ∧ (let s := outcome icedState (exec (.iceRelease 0) icedState)
         (outcome s (exec (.save 0) s)).lnk.serving = some .pending)
      ∧ (busy.lnk.serving = some .inFlight ∧ busy.lnk.waiting = none
        ∧ busy.lnk.order = ([] : List Place) ++ (⟨none, false⟩ : Place) :: [])
      ∧ (let l := (after [.save 0, .fetch 0]).lnk
         l.serving = some .inFlight ∧ l.waiting = some .fetch
           ∧ l.order = ([] : List Place) ++ (⟨none, false⟩ : Place) :: [] ++ (⟨none, false⟩ : Place) :: [])
      ∧ (after [.save 0, .save 0]).lnk.waiting = some .save ∧ (after [.save 0, .reset 0]).lnk.waiting = some .reset := by
  decide +kernel

end Sys2Proof.Tests
end

