-- ==== Sys2Proof/Proofs/ClearAverage.lean ====
section
/-! CLEAR_AVERAGE (R55). The request, for one input or for all six, is a fold of the clear of one input over the inputs it names; the
fold is described once, for any list: what it can change, and what each record and each set of levels is afterward. -/

namespace Sys2Proof.Machine

/-! ### The clear of one input -/

/-- The same but for the averager and the indicators. -/
def OnlySavInd (s t : State) : Prop := t = { s with sav := t.sav, ind := t.ind }

theorem OnlySavInd.refl (s : State) : OnlySavInd s s := rfl

theorem OnlySavInd.trans {s t u : State} (h : OnlySavInd s t) (k : OnlySavInd t u) : OnlySavInd s u := by
  unfold OnlySavInd at *; rw [k, h]

theorem OnlySavInd.lnk {s t : State} (h : OnlySavInd s t) : t.lnk = s.lnk := by rw [h]

theorem clearAverage_onlySavInd (resetLevels : Bool) (s : State) (va : Fin 6) :
    OnlySavInd s (s.clearAverage resetLevels va) := by
  cases resetLevels <;> rfl

theorem clearAverage_sav (resetLevels : Bool) (s : State) (va : Fin 6) :
    (s.clearAverage resetLevels va).sav = (s.clearTsa va).sav := by
  cases resetLevels <;> rfl

theorem clearAverage_track (resetLevels : Bool) (s : State) (va : Fin 6) (ch : Channel) :
    (s.clearAverage resetLevels va).track ch = s.track ch := by
  cases resetLevels <;> rfl

theorem clearAverage_ind_get (resetLevels : Bool) (s : State) (va o : Fin 6) :
    (s.clearAverage resetLevels va).ind.get o =
      if va = o ∧ resetLevels = true then (s.ind.get o).relaxed else s.ind.get o := by
  have kept : (s.clearTsa va).ind = s.ind := rfl
  cases resetLevels with
  | false => simp [State.clearAverage, kept]
  | true =>
    by_cases h : va = o
    · subst h; simp [State.clearAverage, kept]
    · simp [State.clearAverage, kept, Tab.get_set, h]

theorem clearAverage_addPlace (resetLevels : Bool) (p : Place) (s : State) (va : Fin 6) :
    (s.addPlace p).clearAverage resetLevels va = (s.clearAverage resetLevels va).addPlace p := by
  cases resetLevels <;> rfl

theorem relaxed_relaxed (v : Ind) : v.relaxed.relaxed = v.relaxed := rfl

/-! ### The clear of a list of inputs -/

theorem clearAverage_foldl_onlySavInd (resetLevels : Bool) (l : List (Fin 6)) (s : State) :
    OnlySavInd s (l.foldl (State.clearAverage resetLevels) s) :=
  foldl_rel OnlySavInd.refl OnlySavInd.trans (clearAverage_onlySavInd resetLevels) l s

/-- The levels play no part in what becomes of the records. -/
theorem clearAverage_foldl_sav_get (resetLevels : Bool) (l : List (Fin 6)) (s : State) (o : Fin 6) :
    (l.foldl (State.clearAverage resetLevels) s).sav.get o = (l.foldl State.clearTsa s).sav.get o := by
  induction l generalizing s with
  | nil => rfl
  | cons a l ih =>
    have track : ∀ ch, (s.clearTsa a).track ch = s.track ch := fun _ => rfl
    simp only [List.foldl_cons, ih, clearTsa_foldl_get, clearAverage_sav, clearAverage_track, track]

theorem clearAverage_foldl_ind_get (resetLevels : Bool) (l : List (Fin 6)) (s : State) (o : Fin 6) :
    (l.foldl (State.clearAverage resetLevels) s).ind.get o =
      if o ∈ l ∧ resetLevels = true then (s.ind.get o).relaxed else s.ind.get o := by
  induction l generalizing s with
  | nil => simp
  | cons a l ih =>
    simp only [List.foldl_cons, ih, clearAverage_ind_get, List.mem_cons]
    by_cases e : a = o
    · subst e; by_cases m : a ∈ l <;> cases resetLevels <;> simp [m, relaxed_relaxed]
    · simp [e, Ne.symm (a := a) (b := o) e]

theorem clearAverage_foldl_addPlace (resetLevels : Bool) (p : Place) (l : List (Fin 6)) (s : State) :
    l.foldl (State.clearAverage resetLevels) (s.addPlace p) = (l.foldl (State.clearAverage resetLevels) s).addPlace p :=
  List.foldl_hom (State.addPlace · p) (clearAverage_addPlace resetLevels p)

/-! ### The request -/

/-- The inputs that CLEAR_AVERAGE names: all six for 255, none for a number that is no VA input's. -/
def clearedInputs (input : Nat) : List (Fin 6) := if input = namedValue then allVa else (vaOf input).toList

theorem mem_clearedInputs (input : Nat) (va : Fin 6) : va ∈ clearedInputs input ↔ input = 255 ∨ input = va.val := by
  unfold clearedInputs vaOf namedValue
  by_cases all : input = 255
  · simp [all, mem_allVa]
  · by_cases one : input < 6
    · simp [all, one, Fin.ext_iff, eq_comm]
    · simp [all, one]; omega

theorem serveClearAverage_accepted (s : State) (input : Nat) (resetLevels : Bool) (named : input < 6 ∨ input = 255) :
    serveClearAverage input resetLevels s =
      ((clearedInputs input).foldl (State.clearAverage resetLevels) s, .bare .ok) := by
  unfold serveClearAverage clearedInputs
  by_cases all : input = namedValue
  · simp only [all, if_true]
  · have one : input < 6 := named.resolve_right all
    simp [all, vaOf, one]

theorem serveClearAverage_refused (s : State) (input : Nat) (resetLevels : Bool) (high : 6 ≤ input) (notAll : input ≠ 255) :
    serveClearAverage input resetLevels s = (s, .bare .badValue) := by
  simp [serveClearAverage, namedValue, notAll, vaOf, Nat.not_lt.2 high]

/-- CLEAR_AVERAGE served at once: what its rule makes of the state, with its reply at the end of the order. -/
theorem exec_clearAverage (s : State) (tick : Tick) (input : Nat) (resetLevels : Bool) (h : s.ServesAtOnce) (u : State) (a : Answer)
    (answered : ∀ p, serveClearAverage input resetLevels ((s.advance tick).addPlace p) = (u.addPlace p, a))
    (link : u.lnk = s.lnk) :
    exec (.clearAverage input resetLevels tick) s = .next (u.replied 0x99 a.status a.fields) := by
  rw [exec_request (r := .clearAverage input resetLevels) rfl]
  exact congrArg _ (submit_servesAtOnce s tick (.clearAverage input resetLevels) h nofun nofun u a answered link)

theorem exec_clearAverage_accepted (s : State) (tick : Tick) (input : Nat) (resetLevels : Bool) (h : s.ServesAtOnce)
    (named : input < 6 ∨ input = 255) :
    exec (.clearAverage input resetLevels tick) s =
      .next (((clearedInputs input).foldl (State.clearAverage resetLevels) (s.advance tick)).replied 0x99 .ok []) := by
  refine exec_clearAverage s tick input resetLevels h _ (.bare .ok) (fun p => ?_)
    (clearAverage_foldl_onlySavInd resetLevels _ _).lnk
  rw [serveClearAverage_accepted _ _ _ named, clearAverage_foldl_addPlace]

theorem exec_clearAverage_refused (s : State) (tick : Tick) (input : Nat) (resetLevels : Bool) (h : s.ServesAtOnce)
    (high : 6 ≤ input) (notAll : input ≠ 255) :
    exec (.clearAverage input resetLevels tick) s = .next ((s.advance tick).replied 0x99 .badValue []) :=
  exec_clearAverage s tick input resetLevels h _ (.bare .badValue)
    (fun _ => serveClearAverage_refused _ _ _ high notAll) rfl

/-- A reply after a change of averages and indicators at `tick` leaves the rest but the clock and the link. -/
theorem OnlySavInd.replied {s u : State} {tick : Tick} (h : OnlySavInd (s.advance tick) u) (type : Nat) (st : Status)
    (fields : List Field) :
    u.replied type st fields =
      { s with now := max s.now tick, sav := u.sav, ind := u.ind, lnk := (s.replied type st fields).lnk } := by
  unfold OnlySavInd at h
  rw [h]
  rfl

/-- Settles O24: an accepted CLEAR_AVERAGE is the fold over the inputs it names, whose records and levels the fold lemmas give. -/
theorem clearAverageEmptiesRecords : Obligations.ClearAverageEmptiesRecords := by
  intro s tick input resetLevels h
  refine ⟨fun named => ?_, exec_clearAverage_refused s tick input resetLevels h⟩
  refine ⟨_, exec_clearAverage_accepted s tick input resetLevels h named,
    (clearAverage_foldl_onlySavInd resetLevels _ _).replied .., fun va => ?_⟩
  have sav := clearAverage_foldl_sav_get resetLevels (clearedInputs input) (s.advance tick) va
  have ind := clearAverage_foldl_ind_get resetLevels (clearedInputs input) (s.advance tick) va
  rw [clearTsa_foldl_get] at sav
  simp only [mem_clearedInputs] at sav ind
  dsimp only
  split
  next cleared =>
    rw [if_pos cleared] at sav
    simp only [cleared, true_and] at ind
    exact ⟨sav, ind⟩
  next spared =>
    rw [if_neg spared] at sav
    rw [if_neg fun both => spared both.1] at ind
    exact ⟨sav, ind⟩

end Sys2Proof.Machine
end

