-- ==== Sys2Proof/Proofs/Regime.lean ====
section
/-! The class of a block close and the regime (R79, R80, R83). What it is to enter a regime, counters included, is said once as one
update of the state; the block close then has a case for each candidate. -/

namespace Sys2Proof.Machine

/-! ### Entering a regime -/

theorem ind_zeroed_eq (v : Ind) :
    v.zeroed = { v with levels := Tab.ofFn fun j => ⟨(v.levels.get j).level, 0, 0⟩ } := by
  have levels : v.levels.map LevelState.zeroed = Tab.ofFn fun j => ⟨(v.levels.get j).level, 0, 0⟩ :=
    Tab.ext_get fun j => by simp [LevelState.zeroed]
  simp only [Ind.zeroed, levels]

/-- The indicators after the active profile became `a` (R83). -/
theorem zeroedUnlessActive_eq (s : State) (a : Fin 8) :
    (if a = s.rgc.active then s.ind else s.ind.map Ind.zeroed) =
      Tab.ofFn fun va => if a = s.rgc.active then s.ind.get va else (s.ind.get va).zeroed :=
  Tab.ext_get fun va => by split <;> simp

theorem enterRegime_eq (s : State) (r : Fin 8) :
    s.enterRegime r =
      { s with
        rgc := { s.rgc with regime := r, active := s.rgc.settings.map.get r }
        ind := Tab.ofFn fun va =>
          if s.rgc.settings.map.get r = s.rgc.active then s.ind.get va else (s.ind.get va).zeroed } := by
  rw [← zeroedUnlessActive_eq]
  rfl

/-! ### The class and its candidate -/

theorem powerClass_val (b : Tab 6 Nat) (pkw : Int) :
    (powerClass b pkw).val = 1 + b.list.countP (fun (x : Nat) => decide ((x : Int) ≤ pkw)) := by
  rw [List.countP_eq_length_filter, Nat.add_comm]
  rfl

theorem candidateAfter_equal {before : Option Candidate} {d : Candidate} (held : before = some d) :
    candidateAfter before d.regime = ⟨d.regime, 2⟩ := by
  simp [candidateAfter, held]

theorem candidateAfter_differs {before : Option Candidate} {c : Fin 8} (differs : ∀ d, before = some d → d.regime ≠ c) :
    candidateAfter before c = ⟨c, 1⟩ := by
  cases before with
  | none => rfl
  | some d => simp [candidateAfter, differs d rfl]

/-! ### The block close -/

theorem classify_not_following (s : State) (pkw : Int) (h : s.trk.tl.lock.following = false) : s.classify pkw = s := by
  simp [State.classify, h]

theorem classify_differs (s : State) (pkw : Int) (h : s.trk.tl.lock.following = true)
    (differs : ∀ d, s.rgc.candidate = some d → d.regime ≠ powerClass s.rgc.settings.breakpoints pkw) :
    s.classify pkw =
      { s with rgc := { s.rgc with candidate := some ⟨powerClass s.rgc.settings.breakpoints pkw, 1⟩ } } := by
  simp [State.classify, h, candidateAfter_differs differs]

theorem classify_equal (s : State) (pkw : Int) (h : s.trk.tl.lock.following = true) {d : Candidate}
    (held : s.rgc.candidate = some d) (equal : d.regime = powerClass s.rgc.settings.breakpoints pkw) :
    s.classify pkw =
      let t : State := { s with rgc := { s.rgc with candidate := some ⟨d.regime, 2⟩ } }
      if d.regime = s.rgc.regime then t else t.enterRegime d.regime := by
  simp [State.classify, h, ← equal, candidateAfter_equal held]

/-- Settles O49: a block close has a case for no pulses, another candidate and an equal one; an equal class that is the regime
already moves nothing, and another one is entered. -/
theorem equalClassesMoveTheRegime : Obligations.EqualClassesMoveTheRegime := by
  intro s pkw
  refine ⟨classify_not_following s pkw, fun following => ?_⟩
  refine ⟨powerClass s.rgc.settings.breakpoints pkw, powerClass_val _ _, classify_differs s pkw following, ?_⟩
  intro d held equal
  rw [classify_equal s pkw following held equal, ← equal]
  by_cases same : d.regime = s.rgc.regime
  · have kept : (Tab.ofFn fun va => s.ind.get va) = s.ind := Tab.ext_get fun va => by simp
    simp [same, kept]
  · simp [same, enterRegime_eq, ind_zeroed_eq]

end Sys2Proof.Machine
end

section
/-! The Icing Monitor's release (R127) and the power curve (R113). The release is one update of the state, requested by ICE_RELEASE;
the curve is walked point by point, and what the walk finds depends on the points before the wind only through their order. -/

namespace Sys2Proof.Machine

/-! ### The release -/

/-- What a release changes: the icing state with its counts and timers, the alert list and the store. -/
theorem released_eq (s : State) :
    s.released =
      { s with
        icm := { s.icm with
          state := .clear, icestop := false, e1 := 0, e2 := 0, runKind := none, tConfirm := none, tThaw := .stopped }
        alt := (s.raise (iceStateAlert .note none none .absent)).alt
        sst := s.sst.requested s.released.contents s.now } := rfl

theorem released_sst (s : State) : s.released.sst = s.sst.requested s.released.contents s.now := rfl

theorem released_addPlace (s : State) (p : Place) : (s.addPlace p).released = s.released.addPlace p := rfl

/-! ### The request -/

theorem serveIceRelease_badState (s : State) (notIced : s.icm.state.stops = false) : serveIceRelease s = (s, .bare .badState) := by
  simp [serveIceRelease, notIced]

theorem serveIceRelease_notInService (s : State) (iced : s.icm.state.stops = true) (normal : s.skd.mode = .normal) :
    serveIceRelease s = (s, .bare .notInService) := by
  simp [serveIceRelease, State.serviceHold, iced, normal]

theorem serveIceRelease_released (s : State) (iced : s.icm.state.stops = true) (hold : s.skd.mode ≠ .normal) :
    serveIceRelease s = (s.released, .bare .ok) := by
  simp [serveIceRelease, State.serviceHold, iced, hold]

/-- ICE_RELEASE served at once: what its rule makes of the state, with its reply at the end of the order. -/
theorem exec_iceRelease (s : State) (tick : Tick) (h : s.ServesAtOnce) (u : State) (a : Answer)
    (answered : ∀ p, serveIceRelease ((s.advance tick).addPlace p) = (u.addPlace p, a)) (link : u.lnk = s.lnk) :
    exec (.iceRelease tick) s = .next (u.replied 0xB4 a.status a.fields) := by
  rw [exec_request (r := .iceRelease) rfl]
  exact congrArg _ (submit_servesAtOnce s tick .iceRelease h nofun nofun u a answered link)

/-- Settles O28: the request has a case for each way it is judged, and an accepted one is the release with its reply. -/
theorem iceReleaseIsJudged : Obligations.IceReleaseIsJudged := by
  intro s tick h
  refine ⟨fun notIced => ?_, fun iced normal => ?_, fun iced hold => ?_⟩
  · exact exec_iceRelease s tick h _ (.bare .badState) (fun _ => serveIceRelease_badState _ notIced) rfl
  · exact exec_iceRelease s tick h _ (.bare .notInService) (fun _ => serveIceRelease_notInService _ iced normal) rfl
  · have accepted := exec_iceRelease s tick h (s.advance tick).released (.bare .ok)
      (fun p => by rw [← released_addPlace]; exact serveIceRelease_released _ iced hold) rfl
    refine ⟨_, accepted, ?_, rfl, fun idle => ?_, fun running => ?_⟩
    · rw [released_eq]; rfl
    · exact (released_sst _).trans (requested_idle _ _ _ idle)
    · exact (released_sst _).trans (requested_running _ _ _ running)

/-! ### The walk along the curve -/

/-- The wind speeds ascend strictly (R112). -/
abbrev Ascends (points : List CurvePoint) : Prop := points.Pairwise fun p q => p.wind < q.wind

theorem expectedFrom_inside (w : Int) (a b : CurvePoint) (after : List CurvePoint) (inside : w < b.wind) :
    expectedFrom w (a :: b :: after) = a.power + ((b.power : Int) - a.power) * (w - a.wind) / ((b.wind : Int) - a.wind) :=
  if_pos inside

theorem expectedFrom_past (w : Int) (a b : CurvePoint) (after : List CurvePoint) (past : (b.wind : Int) ≤ w) :
    expectedFrom w (a :: b :: after) = expectedFrom w (b :: after) :=
  if_neg (not_lt.2 past)

theorem expectedPower_below (w : Int) (a : CurvePoint) (after : List CurvePoint) (below : w < a.wind) :
    expectedPower (a :: after) w = 0 :=
  if_pos below

theorem expectedPower_from (w : Int) (a : CurvePoint) (after : List CurvePoint) (reached : (a.wind : Int) ≤ w) :
    expectedPower (a :: after) w = expectedFrom w (a :: after) :=
  if_neg (not_lt.2 reached)

/-- The walk passes every point before one that the wind has reached. -/
theorem expectedFrom_append (w : Int) (before : List CurvePoint) (a : CurvePoint) (after : List CurvePoint)
    (ascends : Ascends (before ++ a :: after)) (reached : (a.wind : Int) ≤ w) :
    expectedFrom w (before ++ a :: after) = expectedFrom w (a :: after) := by
  induction before with
  | nil => rfl
  | cons p before ih =>
    obtain ⟨-, ascends⟩ := List.pairwise_cons.1 ascends
    rw [← ih ascends]
    cases before with
    | nil => exact expectedFrom_past w p a after reached
    | cons q before =>
      have q_lt_a : q.wind < a.wind := (List.pairwise_cons.1 ascends).1 a (by simp)
      exact expectedFrom_past w p q _ (by omega)

theorem expectedPower_append (w : Int) (before : List CurvePoint) (a : CurvePoint) (after : List CurvePoint)
    (ascends : Ascends (before ++ a :: after)) (reached : (a.wind : Int) ≤ w) :
    expectedPower (before ++ a :: after) w = expectedFrom w (a :: after) := by
  rw [← expectedFrom_append w before a after ascends reached]
  cases before with
  | nil => exact expectedPower_from w a after reached
  | cons p before =>
    have p_lt_a : p.wind < a.wind := (List.pairwise_cons.1 ascends).1 a (by simp)
    exact expectedPower_from w p _ (by omega)

/-! ### Bounds -/

/-- Between two points the rounded-down line stays between any bounds of its ends: at `d` of `D` it is an average of them. -/
theorem line_mem_Icc {x y lo hi d D : Int} (hx : x ∈ Set.Icc lo hi) (hy : y ∈ Set.Icc lo hi) (d_nonneg : 0 ≤ d) (d_lt : d < D) :
    x + (y - x) * d / D ∈ Set.Icc lo hi := by
  obtain ⟨lo_x, x_hi⟩ := hx
  obtain ⟨lo_y, y_hi⟩ := hy
  have D_pos : 0 < D := d_nonneg.trans_lt d_lt
  have lower : (lo - x) * D ≤ (y - x) * d := calc
    (lo - x) * D ≤ (lo - x) * d := mul_le_mul_of_nonpos_left d_lt.le (by omega)
    _ ≤ (y - x) * d := mul_le_mul_of_nonneg_right (by omega) d_nonneg
  have upper : (y - x) * d ≤ (hi - x) * D := calc
    (y - x) * d ≤ (hi - x) * d := mul_le_mul_of_nonneg_right (by omega) d_nonneg
    _ ≤ (hi - x) * D := mul_le_mul_of_nonneg_left d_lt.le (by omega)
  have quotient_ge : lo - x ≤ (y - x) * d / D := (Int.le_ediv_iff_mul_le D_pos).2 lower
  have quotient_le : (y - x) * d / D ≤ hi - x := Int.ediv_le_of_le_mul D_pos upper
  constructor <;> omega

theorem expectedFrom_mem_Icc (w : Int) (m : Nat) (points : List CurvePoint) (reached : ∀ p ∈ points.head?, (p.wind : Int) ≤ w)
    (powers : ∀ p ∈ points, (p.power : Int) ∈ Set.Icc 0 (m : Int)) : expectedFrom w points ∈ Set.Icc 0 (m : Int) := by
  induction points with
  | nil => simp [expectedFrom]
  | cons a after ih =>
    cases after with
    | nil => exact powers a (by simp)
    | cons b after =>
      have a_le : (a.wind : Int) ≤ w := reached a rfl
      by_cases inside : w < b.wind
      · rw [expectedFrom_inside w a b after inside]
        exact line_mem_Icc (powers a (by simp)) (powers b (by simp)) (by omega) (by omega)
      · rw [expectedFrom_past w a b after (not_lt.1 inside)]
        exact ih (by simpa using inside) fun p h => powers p (.tail a h)

theorem expectedPower_mem_Icc (w : Int) (m : Nat) (points : List CurvePoint) (powers : ∀ p ∈ points, p.power ≤ m) :
    expectedPower points w ∈ Set.Icc 0 (m : Int) := by
  cases points with
  | nil => simp [expectedPower]
  | cons a after =>
    by_cases below : w < a.wind
    · simp [expectedPower_below w a after below]
    · rw [expectedPower_from w a after (not_lt.1 below)]
      exact expectedFrom_mem_Icc w m _ (by simpa using below) fun p h => ⟨Int.natCast_nonneg _, Int.ofNat_le.2 (powers p h)⟩

/-- Settles O53: below the first point the power is 0; elsewhere the walk comes to the last point reached, which ends the curve or
has a point after it. -/
theorem expectedPowerFollowsCurve : Obligations.ExpectedPowerFollowsCurve := by
  intro points w _ ascends
  refine ⟨fun a first below => ?_, fun z last reached => ?_, ?_, fun powers => ?_⟩
  · obtain ⟨after, rfl⟩ := List.head?_eq_some_iff.1 first
    exact expectedPower_below w a after below
  · obtain ⟨before, rfl⟩ := List.getLast?_eq_some_iff.1 last
    exact expectedPower_append w before z [] ascends reached
  · rintro before a b after rfl reached inside
    rw [expectedPower_append w before a _ ascends reached, expectedFrom_inside w a b after inside]
  · exact expectedPower_mem_Icc w 32767 points powers

end Sys2Proof.Machine
end

section
/-! The service mode (R146 to R149). What a change of mode does is said once, field by field; the end of a train and the hold timer's
expiry are each one update of the key decoder with such a change after it. -/

namespace Sys2Proof.Machine

/-! ### A change of mode -/

theorem touchesTest_eq_true (old new : ServiceMode) : touchesTest old new = true ↔ new = .test ∨ old = .test := by
  simp [touchesTest, or_comm]

theorem setMode_same (s : State) (count : Nat) : s.setMode s.skd.mode count = s := by
  simp [State.setMode]

theorem setMode_differs (s : State) {mode : ServiceMode} (count : Nat) (differs : s.skd.mode ≠ mode) :
    s.setMode mode count =
      let t : State := { s with skd := { s.skd with mode := mode } }
      (if touchesTest s.skd.mode mode then t.clearAllTsa else t).raise (serviceModeAlert count) := by
  simp [State.setMode, differs]

/-- The records that a change of mode clears, if it does, are cleared before its alert, which reads none of them. -/
theorem setMode_differs_eq (s : State) {mode : ServiceMode} (count : Nat) (differs : s.skd.mode ≠ mode) :
    s.setMode mode count =
      { s with
        skd := { s.skd with mode := mode }
        sav := if touchesTest s.skd.mode mode then s.clearAllTsa.sav else s.sav
        alt := (({ s with skd := { s.skd with mode := mode } } : State).raise (serviceModeAlert count)).alt } := by
  rw [setMode_differs s count differs]
  dsimp only
  split
  · rw [clearAllTsa_onlySav { s with skd := { s.skd with mode := mode } }]
    rfl
  · rfl

theorem setMode_frame (s : State) (mode : ServiceMode) (count : Nat) :
    s.setMode mode count =
      { s with
        skd := { s.skd with mode := mode }, sav := (s.setMode mode count).sav, alt := (s.setMode mode count).alt } := by
  by_cases same : s.skd.mode = mode
  · subst same; simp only [setMode_same]
  · simp only [setMode_differs_eq s count same]

theorem setMode_alt (s : State) (mode : ServiceMode) (count : Nat) :
    (s.setMode mode count).alt =
      if s.skd.mode = mode then s.alt
      else (({ s with skd := { s.skd with mode := mode } } : State).raise (serviceModeAlert count)).alt := by
  split
  next same => rw [← same, setMode_same]
  next differs => rw [setMode_differs_eq s count differs]

theorem clearAllTsa_sav_get (s : State) (va : Fin 6) : s.clearAllTsa.sav.get va = (s.sav.get va).emptied s :=
  clearAllTsa_get s va

theorem setMode_sav_get (s : State) (mode : ServiceMode) (count : Nat) (va : Fin 6) :
    (s.setMode mode count).sav.get va =
      if mode ≠ s.skd.mode ∧ (mode = .test ∨ s.skd.mode = .test) then (s.sav.get va).emptied s else s.sav.get va := by
  by_cases same : s.skd.mode = mode
  · simp [← same, setMode_same]
  · simp only [setMode_differs_eq s count same, ← touchesTest_eq_true, ne_eq, Ne.symm same, not_false_eq_true, true_and]
    split
    · exact clearAllTsa_sav_get s va
    · rfl

/-! ### The end of a train -/

/-- The counts that a train's end acts on: 3 always, 5 and 7 under service hold (R146). -/
abbrev TrainActs (mode : ServiceMode) (n : Nat) : Prop := n = 3 ∨ mode ≠ .normal ∧ (n = 5 ∨ n = 7)

/-- The mode after a train of count `n`, ignored or not (R146). -/
def modeAtTrainEnd (mode : ServiceMode) (n : Nat) : ServiceMode :=
  if n = 3 then .service
  else if mode = .normal then .normal
  else if n = 5 then .test
  else if n = 7 then .normal
  else mode

theorem modeAfterTrain_eq (mode : ServiceMode) (n : Nat) :
    modeAfterTrain mode n = if TrainActs mode n then some (modeAtTrainEnd mode n) else none := by
  unfold modeAfterTrain modeAtTrainEnd
  split <;> simp_all

theorem modeAtTrainEnd_ignored {mode : ServiceMode} {n : Nat} (ignored : ¬TrainActs mode n) : modeAtTrainEnd mode n = mode := by
  obtain ⟨not_three, other⟩ := not_or.1 ignored
  by_cases normal : mode = .normal
  · simp [modeAtTrainEnd, not_three, normal]
  · obtain ⟨not_five, not_seven⟩ := not_or.1 fun acts => other ⟨normal, acts⟩
    simp [modeAtTrainEnd, not_three, normal, not_five, not_seven]

theorem holdFrom_eq (mode : ServiceMode) (now : Tick) :
    holdFrom mode now = if mode = .normal then none else some (now + 3600000000) := by
  cases mode <;> rfl

/-- The key decoder when a train of count `n` ends at `now`, its mode not yet moved (R145, R146). -/
def Skd.trainClosed (k : Skd) (n : Nat) (now : Tick) : Skd :=
  { k with
    train := none, lastTrain := n
    hold :=
      if TrainActs k.mode n then (if modeAtTrainEnd k.mode n = .normal then none else some (now + 3600000000)) else k.hold }

theorem endTrain_eq (s : State) (n : Nat) :
    s.endTrain n = ({ s with skd := s.skd.trainClosed n s.now } : State).setMode (modeAtTrainEnd s.skd.mode n) n := by
  by_cases acts : TrainActs s.skd.mode n
  · simp only [State.endTrain, modeAfterTrain_eq, Skd.trainClosed, if_pos acts, holdFrom_eq]
  · rw [modeAtTrainEnd_ignored acts]
    simp only [State.endTrain, modeAfterTrain_eq, Skd.trainClosed, if_neg acts]
    exact (setMode_same _ n).symm

theorem exec_trainEnd (s : State) (n : Nat) (rose : Tick) (running : s.phase = .running) (high : s.skd.low = false)
    (openTrain : s.skd.train = some n) (risen : s.skd.roseAt = some rose) :
    exec .trainEnd s = .next ((s.advance (rose + 4000000)).endTrain n) := by
  change execTrainEnd s = _
  simp [execTrainEnd, State.atDue, Skd.trainEndsAt, running, high, openTrain, risen, trainGap]

/-! ### The hold timer -/

theorem exec_holdExpiry (s : State) (due : Tick) (running : s.phase = .running) (runs : s.skd.hold = some due) :
    exec .holdExpiry s = .next (s.advance due).expireHold := by
  change execHoldExpiry s = _
  simp [execHoldExpiry, State.atDue, running, runs]

/-- Settles O57: both events are a change of mode after an update of the key decoder, and the three lemmas on `State.setMode` give
what each leaves. -/
theorem trainsAndHoldMoveTheMode : Obligations.TrainsAndHoldMoveTheMode := by
  intro s running
  refine ⟨fun n rose high openTrain risen => ?_, fun due runs => ?_⟩
  · let t : State := s.advance (rose + 4000000)
    let closed : State := { t with skd := t.skd.trainClosed n t.now }
    let mode := modeAtTrainEnd s.skd.mode n
    have frame := setMode_frame closed mode n
    refine ⟨closed.setMode mode n, ?_, frame, fun same => ?_, fun differs => ?_, fun va => ?_⟩
    · rw [exec_trainEnd s n rose running high openTrain risen, endTrain_eq]
      rfl
    · exact (setMode_alt closed mode n).trans (if_pos same.symm)
    · rw [frame]
      exact (setMode_alt closed mode n).trans (if_neg differs.symm)
    · exact setMode_sav_get closed mode n va
  · let stopped : State := { s.advance due with skd := { s.skd with hold := none } }
    have frame := setMode_frame stopped .normal 0
    refine ⟨stopped.setMode .normal 0, exec_holdExpiry s due running runs, frame, ?_, fun va => ?_⟩
    · rw [frame]
      exact setMode_alt stopped .normal 0
    · have leavesTest : .normal ≠ s.skd.mode ∧ (ServiceMode.normal = .test ∨ s.skd.mode = .test) ↔ s.skd.mode = .test := by
        cases s.skd.mode <;> decide
      have sav := setMode_sav_get stopped .normal 0 va
      exact sav.trans (by simp only [stopped, leavesTest]; rfl)

end Sys2Proof.Machine
end

section
/-! The item table's requests, SET_ITEM (R138, R139) and SERVICE_DONE (R140). A recomputation is one update of the state: the item
written and, for an upward move, one alert. The requests then have a case for each way they are judged. -/

namespace Sys2Proof.Machine

/-! ### Requests served at once -/

/-- A request row served at once: what its owner's rule makes of the state, with its reply at the end of the order. -/
theorem exec_servedAtOnce {c : Instr} {r : Request} (row : c.request = some r) (notSave : r ≠ .save) (notReset : r ≠ .reset)
    {s : State} (h : s.ServesAtOnce) (u : State) (a : Answer)
    (answered : ∀ p, ((s.advance (sentAt c)).addPlace p).answer r = (u.addPlace p, a)) (link : u.lnk = s.lnk) :
    exec c s = .next (u.replied (requestType r + 0x80) a.status a.fields) := by
  rw [exec_request row]
  exact congrArg _ (submit_servesAtOnce s _ r h notSave notReset u a answered link)

/-! ### Recomputation -/

/-- The alert list after the one alert of a move, if it raises any. -/
def State.altAfter (s : State) (a : Option Alert) : Alt :=
  match a with
  | none => s.alt
  | some a => (s.raise a).alt

theorem recompute_eq (s : State) (slot : Fin 16) (it : Item) :
    s.recompute slot it =
      { s with
        msc := s.msc.set slot { it with state := it.computedState }
        alt := s.altAfter (Item.moveAlert slot it.state { it with state := it.computedState }) } := by
  unfold State.recompute State.altAfter
  split
  next quiet => rw [quiet]; rfl
  next a raised => rw [raised]; rfl

theorem altAfter_addPlace (s : State) (p : Place) (a : Option Alert) : (s.addPlace p).altAfter a = s.altAfter a := by
  cases a <;> rfl

/-- RUNNING and UNUSED have no severity, and they are the two lowest states (R134, R135). -/
theorem severity_eq_none {st : ItemState} (low : ¬1 < st.rank) : st.severity = none := by
  cases st <;> simp_all [ItemState.rank, ItemState.severity]

theorem moveAlert_quiet (slot : Fin 16) {before : ItemState} {it : Item}
    (quiet : ¬(before.rank < it.state.rank ∧ 1 < it.state.rank)) :
    Item.moveAlert slot before it = none := by
  unfold Item.moveAlert
  split
  next upward => rw [severity_eq_none fun high => quiet ⟨upward, high⟩]; rfl
  next => rfl

theorem moveAlert_upward (slot : Fin 16) {before : ItemState} {it : Item} {v : Severity} (upward : before.rank < it.state.rank)
    (severe : it.state.severity = some v) :
    Item.moveAlert slot before it =
      some ⟨.itemState, v, .slot slot, none, some it.displayed, some (it.threshold it.state), .absent⟩ := by
  simp [Item.moveAlert, upward, severe]

/-! ### The fields of SET_ITEM -/

theorem slotOf_val (slot : Fin 16) : slotOf slot.val = some slot := by simp [slotOf]

theorem slotOf_high {raw : Nat} (high : 16 ≤ raw) : slotOf raw = none := by simp [slotOf, Nat.not_lt.2 high]

/-- The bases are numbered in the order R132 lists them. -/
theorem basisOf_eq (raw : Nat) : basisOf raw = [Basis.none, .operating, .revolutions, .energy, .damage, .ice, .calendar][raw]? := by
  match raw with
  | 0 | 1 | 2 | 3 | 4 | 5 | 6 => rfl
  | n + 7 => simp [basisOf]

theorem vaOf_eq (raw : Nat) : vaOf raw = ([0, 1, 2, 3, 4, 5] : List (Fin 6))[raw]? := by
  by_cases named : raw < 6
  · interval_cases raw <;> rfl
  · simp [vaOf, named]

/-- The source that R133 requires of an item in use. -/
def requiredSource (raw : Nat) (b : Basis) : Option ItemSource :=
  match b with
  | .damage => ([0, 1, 2, 3, 4, 5] : List (Fin 6))[raw]?.map .va
  | .revolutions => [Channel.tl, .th][raw]?.map .channel
  | .none | .operating | .energy | .ice | .calendar => if raw = 255 then some .none else none

theorem itemSourceOf_eq (b : Basis) (raw : Nat) : itemSourceOf b raw = requiredSource raw b := by
  cases b with
  | damage => simp only [itemSourceOf, requiredSource, vaOf_eq]
  | revolutions =>
    match raw with
    | 0 | 1 | 2 => rfl
    | n + 3 => simp [itemSourceOf, requiredSource, channelOf]
  | none | operating | energy | ice | calendar => rfl

theorem itemFieldsInRange_eq_true (f : ItemFields) :
    itemFieldsInRange f = true ↔ f.tag ≤ 65535 ∧ 1 ≤ f.interval ∧ f.interval ≤ 1000000 ∧ f.lead ≤ 1000000 :=
  decide_eq_true_iff

/-! ### SET_ITEM -/

/-- The item an accepted SET_ITEM writes over `it`, its state recomputed (R139). -/
def Item.written (it : Item) (f : ItemFields) (b : Basis) (src : ItemSource) (farm : Option Nat) : Item :=
  { it.rewritten f b src farm with state := (it.rewritten f b src farm).computedState }

theorem rewritten_state (it : Item) (f : ItemFields) (b : Basis) (src : ItemSource) (farm : Option Nat) :
    (it.rewritten f b src farm).state = it.state := by
  unfold Item.rewritten
  dsimp only
  split
  · split <;> rfl
  · rfl

theorem computedState_inUse {it : Item} (inUse : it.basis ≠ .none) :
    it.computedState = itemStateOf (it.interval * it.basis.factor) (it.lead * it.basis.factor) it.accrued := by
  unfold Item.computedState
  split
  next unused => exact absurd unused inUse
  next => rfl

/-- Only KEEP on the same basis keeps the count; otherwise it begins afresh (R139). -/
theorem rewritten_eq (it : Item) (f : ItemFields) (b : Basis) (src : ItemSource) (farm : Option Nat) :
    it.rewritten f b src farm =
      { tag := f.tag, basis := b, source := src, interval := f.interval, lead := f.lead
        accrued := if it.basis = b ∧ f.choice = .keep then it.accrued else 0
        state := it.state
        calendarStart := if it.basis = b ∧ f.choice = .keep then it.calendarStart else if b = .calendar then farm else none
        lastDone := if it.basis = b then it.lastDone else none
        doneCount := if it.basis = b then it.doneCount else 0 } := by
  by_cases same : it.basis = b
  · cases choice : f.choice <;> simp [Item.rewritten, same, choice, freshStart]
  · simp [Item.rewritten, same, freshStart]

theorem written_eq (it : Item) (f : ItemFields) {b : Basis} (src : ItemSource) (farm : Option Nat) (inUse : b ≠ .none) :
    let accrued := if it.basis = b ∧ f.choice = .keep then it.accrued else 0
    it.written f b src farm =
      { tag := f.tag, basis := b, source := src, interval := f.interval, lead := f.lead, accrued := accrued
        state := itemStateOf (f.interval * b.factor) (f.lead * b.factor) accrued
        calendarStart := if it.basis = b ∧ f.choice = .keep then it.calendarStart else if b = .calendar then farm else none
        lastDone := if it.basis = b then it.lastDone else none
        doneCount := if it.basis = b then it.doneCount else 0 } := by
  unfold Item.written
  rw [rewritten_eq, computedState_inUse inUse]

/-- The state after an accepted SET_ITEM with a basis other than NONE (R139, R135). -/
def State.itemWritten (s : State) (slot : Fin 16) (new : Item) : State :=
  { s with
    msc := s.msc.set slot new
    alt := s.altAfter (Item.moveAlert slot (s.msc.get slot).state new) }

theorem recompute_rewritten (s : State) (slot : Fin 16) (f : ItemFields) (b : Basis) (src : ItemSource) (farm : Option Nat) :
    s.recompute slot ((s.msc.get slot).rewritten f b src farm) = s.itemWritten slot ((s.msc.get slot).written f b src farm) := by
  rw [recompute_eq, rewritten_state]
  rfl

theorem serveSetItem_unused (s : State) (f : ItemFields) (slot : Fin 16) (named : f.slot = slot.val) (unused : f.basis = 0) :
    serveSetItem f s = (s.setItem slot Item.unused, .ok Item.unused.fields) := by
  simp [serveSetItem, named, unused, slotOf_val, basisOf]

theorem serveSetItem_written (s : State) (f : ItemFields) (slot : Fin 16) (named : f.slot = slot.val) {b : Basis} {src : ItemSource}
    (basis : basisOf f.basis = some b) (inUse : b ≠ .none) (source : itemSourceOf b f.source = some src)
    (inRange : itemFieldsInRange f = true) :
    let new := (s.msc.get slot).written f b src s.clk.farm
    serveSetItem f s = (s.itemWritten slot new, .ok new.fields) := by
  cases b with
  | none => exact absurd rfl inUse
  | operating | revolutions | energy | damage | ice | calendar =>
    simp only [serveSetItem, named, slotOf_val, basis, source, inRange, if_true, recompute_rewritten, State.itemWritten,
      Tab.get_set_self]

/-- What R138 refuses: a slot or a basis that is not named, or for a basis in use a source or a number out of range. -/
theorem serveSetItem_refused (s : State) (f : ItemFields)
    (refused : slotOf f.slot = none ∨ basisOf f.basis = none
      ∨ ∃ b, basisOf f.basis = some b ∧ b ≠ .none ∧ (itemSourceOf b f.source = none ∨ itemFieldsInRange f = false)) :
    serveSetItem f s = (s, .bare .badValue) := by
  unfold serveSetItem
  split
  next slot unused => simp [slot, unused] at refused
  next b _ slot basis =>
    split
    next source =>
      obtain ⟨-, outOfRange⟩ : b ≠ .none ∧ itemFieldsInRange f = false := by simpa [slot, basis, source] using refused
      simp [outOfRange]
    next => rfl
  next => rfl

theorem itemWritten_addPlace (s : State) (p : Place) (slot : Fin 16) (new : Item) :
    (s.addPlace p).itemWritten slot new = (s.itemWritten slot new).addPlace p := by
  unfold State.itemWritten
  rw [altAfter_addPlace]
  rfl

/-- An alert is stamped with device seconds and farm time, not with the instant. -/
theorem altAfter_advance (s : State) (tick : Tick) (a : Option Alert) : (s.advance tick).altAfter a = s.altAfter a := by
  cases a <;> rfl

theorem exec_setItem_written (s : State) (tick : Tick) (f : ItemFields) (h : s.ServesAtOnce) (slot : Fin 16)
    (named : f.slot = slot.val) {b : Basis} {src : ItemSource} (basis : basisOf f.basis = some b) (inUse : b ≠ .none)
    (source : itemSourceOf b f.source = some src) (inRange : itemFieldsInRange f = true) :
    let new := (s.msc.get slot).written f b src s.clk.farm
    exec (.setItem f tick) s = .next (((s.advance tick).itemWritten slot new).replied 0xB8 .ok new.fields) := by
  refine exec_servedAtOnce (r := .setItem f) rfl nofun nofun h _ (.ok _) (fun p => ?_) rfl
  rw [← itemWritten_addPlace]
  exact serveSetItem_written ((s.advance tick).addPlace p) f slot named basis inUse source inRange

/-- Settles O29: SET_ITEM has a case for NONE, for a basis in use and for what is refused; a written item is described field by
field, and its alert is the one of a recomputation. -/
theorem setItemWritesTheSlot : Obligations.SetItemWritesTheSlot := by
  intro s tick f h named required
  have required_eq : ∀ b, required b = itemSourceOf b f.source := fun b => (itemSourceOf_eq b f.source).symm
  refine ⟨fun slot slotNamed unused => ?_,
    fun slot b src slotNamed basis inUse source tag_le le_interval interval_le lead_le => ?_, fun refused => ?_⟩
  · exact exec_servedAtOnce (r := .setItem f) rfl nofun nofun h _ (.ok _)
      (fun p => serveSetItem_unused ((s.advance tick).addPlace p) f slot slotNamed unused) rfl
  · have accepted := exec_setItem_written s tick f h slot slotNamed ((basisOf_eq f.basis).trans basis) inUse
      ((required_eq b).symm.trans source) ((itemFieldsInRange_eq_true f).2 ⟨tag_le, le_interval, interval_le, lead_le⟩)
    rw [written_eq _ f src _ inUse] at accepted
    refine ⟨_, accepted, rfl, fun quiet => ?_, fun v upward severe => ?_⟩
    · exact (altAfter_advance s tick _).trans (congrArg s.altAfter (moveAlert_quiet slot quiet))
    · exact (altAfter_advance s tick _).trans (congrArg s.altAfter (moveAlert_upward slot upward severe))
  · refine exec_servedAtOnce (r := .setItem f) rfl nofun nofun h _ (.bare .badValue)
      (fun p => serveSetItem_refused _ f ?_) rfl
    rcases refused with high | noBasis | ⟨b, basis, inUse, unfit⟩
    · exact .inl (slotOf_high high)
    · exact .inr (.inl ((basisOf_eq f.basis).trans noBasis))
    · refine .inr (.inr ⟨b, (basisOf_eq f.basis).trans basis, inUse, ?_⟩)
      rw [← required_eq]
      refine unfit.imp_right fun outside => Bool.eq_false_iff.2 fun inRange => ?_
      obtain ⟨-, le_interval, interval_le, lead_le⟩ := (itemFieldsInRange_eq_true f).1 inRange
      omega

/-! ### SERVICE_DONE -/

theorem serveServiceDone_noSlot (s : State) {raw : Nat} (high : 16 ≤ raw) : serveServiceDone raw s = (s, .bare .badValue) := by
  simp [serveServiceDone, slotOf_high high]

theorem serveServiceDone_notInService (s : State) (slot : Fin 16) (normal : s.skd.mode = .normal) :
    serveServiceDone slot.val s = (s, .bare .notInService) := by
  simp [serveServiceDone, slotOf_val, State.serviceHold, normal]

theorem serveServiceDone_unused (s : State) (slot : Fin 16) (hold : s.skd.mode ≠ .normal)
    (unused : (s.msc.get slot).basis = .none) :
    serveServiceDone slot.val s = (s, .bare .badValue) := by
  simp [serveServiceDone, slotOf_val, State.serviceHold, hold, unused]

theorem serveServiceDone_timeUnset (s : State) (slot : Fin 16) (hold : s.skd.mode ≠ .normal)
    (calendar : (s.msc.get slot).basis = .calendar) (unsynced : s.clk.farm = none) :
    serveServiceDone slot.val s = (s, .bare .timeUnset) := by
  simp [serveServiceDone, slotOf_val, State.serviceHold, hold, calendar, unsynced]

theorem serveServiceDone_recorded (s : State) (slot : Fin 16) (hold : s.skd.mode ≠ .normal)
    (inUse : (s.msc.get slot).basis ≠ .none) (synced : (s.msc.get slot).basis = .calendar → s.clk.farm.isSome = true) :
    let it := s.msc.get slot
    serveServiceDone slot.val s =
      ((s.setItem slot (it.serviced s.clk.farm)).raise (it.serviceAlert slot), .ok (it.serviced s.clk.farm).fields) := by
  have timed : ¬((s.msc.get slot).basis = .calendar ∧ s.clk.farm = none) := fun ⟨calendar, unsynced⟩ => by
    simp [unsynced] at synced
    exact synced calendar
  simp [serveServiceDone, slotOf_val, State.serviceHold, hold, inUse, timed]

/-- Settles O30: SERVICE_DONE has a case for each outcome, and an accepted one writes the serviced item and raises its alert. -/
theorem serviceDoneRecordsAService : Obligations.ServiceDoneRecordsAService := by
  intro s tick h
  have refused (raw : Nat) (st : Status)
      (judged : ∀ p, serveServiceDone raw ((s.advance tick).addPlace p) = ((s.advance tick).addPlace p, .bare st)) :
      exec (.serviceDone raw tick) s = .next ((s.advance tick).replied 0xB9 st []) :=
    exec_servedAtOnce (r := .serviceDone raw) rfl nofun nofun h _ (.bare st) judged rfl
  refine ⟨fun raw high => refused raw _ fun _ => serveServiceDone_noSlot _ high, fun slot => ⟨fun normal => ?_,
    fun hold unused => ?_, fun hold calendar unsynced => ?_, fun hold inUse synced => ?_⟩⟩
  · exact refused slot.val _ fun _ => serveServiceDone_notInService _ slot normal
  · exact refused slot.val _ fun _ => serveServiceDone_unused _ slot hold unused
  · exact refused slot.val _ fun _ => serveServiceDone_timeUnset _ slot hold calendar unsynced
  · exact exec_servedAtOnce (r := .serviceDone slot.val) rfl nofun nofun h _ (.ok _)
      (fun p => serveServiceDone_recorded ((s.advance tick).addPlace p) slot hold inUse synced) rfl

end Sys2Proof.Machine
end

section
/-! The requests of the Snapshot Stack, SNAP_READ (R162) and SNAP_POP (R163). Each has a case for each way it is judged by the top of
the stack; what a read carries is the header of R176, its flags and its kind's fields written with their numbers. -/

namespace Sys2Proof.Machine

/-! ### What a read carries -/

theorem inputNumber_gridInputOf : ∀ g : Fin 6, inputNumber (gridInputOf g) = 6 + g.val := by decide

/-- A field's value is a whole number of either sign, so R176's sum of bits is taken there. -/
theorem snapshotFlags_eq (p : Snapshot) :
    u1 p.flags = ⟨1, ([p.farm.isSome, p.service, p.test, p.body.hasPower].zipIdx.map fun x => if x.1 then 2 ^ x.2 else 0).sum⟩ := by
  have weighted (k : Int) (b : Bool) : (if b then k else 0) = k * bit b := by cases b <;> simp [bit]
  simp [u1, Snapshot.flags, weighted, add_assoc]

/-- A read of a TSA snapshot, laid out as in R176; a speed too wide for its field is carried as the largest value. -/
theorem readFields_tsa {p : Snapshot} {va : Fin 6} {vs : List Int} {n samples speed : Nat} {regime : Fin 8}
    (body : p.body = .tsa va vs n samples speed regime) (depth offset count : Nat) :
    p.readFields depth offset count =
      [u1 depth, u4 p.number] ++ [u1 1, u1 va.val]
        ++ [⟨1, ([p.farm.isSome, p.service, p.test, false].zipIdx.map fun x => if x.1 then 2 ^ x.2 else 0).sum⟩,
          u4 p.deviceSeconds, u4 (p.farm.getD 0)]
        ++ [u2 n, u2 samples, ⟨4, min 4294967295 speed⟩, u1 regime.val] ++ [u2 offset, u1 count]
        ++ ((vs.map i2).drop offset).take count := by
  have carried : u4 (min max32 speed) = ⟨4, min 4294967295 speed⟩ := congrArg (Field.mk 4) (Nat.cast_min max32 speed)
  simp only [Snapshot.readFields, snapshotFlags_eq, body, SnapBody.fields, carried]
  rfl

/-- A read of a GRID snapshot, laid out as in R176; the grid inputs are numbered from 6. -/
theorem readFields_grid {p : Snapshot} {g : Fin 6} {vs : List Nat} {thd : Nat} {pkw : Option Int}
    (body : p.body = .grid g vs thd pkw) (depth offset count : Nat) :
    p.readFields depth offset count =
      [u1 depth, u4 p.number] ++ [u1 2, ⟨1, 6 + g.val⟩]
        ++ [⟨1, ([p.farm.isSome, p.service, p.test, pkw.isSome].zipIdx.map fun x => if x.1 then 2 ^ x.2 else 0).sum⟩,
          u4 p.deviceSeconds, u4 (p.farm.getD 0)]
        ++ [u2 thd, i2 (pkw.getD 0), u4 0, u1 0] ++ [u2 offset, u1 count] ++ ((vs.map u4).drop offset).take count := by
  have carried : u1 (inputNumber (gridInputOf g)) = ⟨1, 6 + g.val⟩ := by rw [inputNumber_gridInputOf]; rfl
  simp only [Snapshot.readFields, snapshotFlags_eq, body, SnapBody.kindFields, carried]
  rfl

/-! ### SNAP_READ -/

theorem serveSnapRead_badCount (s : State) (offset : Nat) {count : Nat} (outside : count = 0 ∨ 64 < count) :
    serveSnapRead offset count s = (s, .bare .badValue) := if_pos outside

theorem serveSnapRead_empty {s : State} (offset : Nat) {count : Nat} (inCount : ¬(count = 0 ∨ 64 < count))
    (empty : s.sns.stack = []) : serveSnapRead offset count s = (s, ⟨.empty, [u1 0]⟩) := by
  simp [serveSnapRead, inCount, empty]

theorem serveSnapRead_beyond {s : State} {offset count : Nat} (inCount : ¬(count = 0 ∨ 64 < count)) {below : List Snapshot}
    {top : Snapshot} (stacked : s.sns.stack = below ++ [top]) (beyond : top.body.values.length < offset + count) :
    serveSnapRead offset count s = (s, .bare .badValue) := by
  simp [serveSnapRead, inCount, stacked, beyond]

theorem serveSnapRead_within {s : State} {offset count : Nat} (inCount : ¬(count = 0 ∨ 64 < count)) {below : List Snapshot}
    {top : Snapshot} (stacked : s.sns.stack = below ++ [top]) (within : ¬top.body.values.length < offset + count) :
    serveSnapRead offset count s = (s, .ok (top.readFields (below.length + 1) offset count)) := by
  simp [serveSnapRead, inCount, stacked, within]

/-- A SNAP_READ served at once leaves the state, whatever the answer that its rule gives. -/
theorem exec_snapRead {s : State} (h : s.ServesAtOnce) (offset count : Nat) (tick : Tick) (a : Answer)
    (judged : ∀ t : State, t.sns = s.sns → serveSnapRead offset count t = (t, a)) :
    exec (.snapRead offset count tick) s = .next ((s.advance tick).replied 0xC1 a.status a.fields) :=
  exec_servedAtOnce (r := .snapRead offset count) rfl nofun nofun h (s.advance tick) a (fun _ => judged _ rfl) rfl

/-- A SNAP_READ with a count in range and a snapshot on top is judged by the length of the top's values (R162). -/
theorem exec_snapRead_top {s : State} (h : s.ServesAtOnce) {offset count : Nat} (inCount : ¬(count = 0 ∨ 64 < count)) (tick : Tick)
    {below : List Snapshot} {top : Snapshot} (stacked : s.sns.stack = below ++ [top]) :
    exec (.snapRead offset count tick) s =
      if top.body.values.length < offset + count then .next ((s.advance tick).replied 0xC1 .badValue [])
      else .next ((s.advance tick).replied 0xC1 .ok (top.readFields (below.length + 1) offset count)) := by
  split
  next beyond =>
    exact exec_snapRead h offset count tick (.bare .badValue) fun t same => serveSnapRead_beyond inCount (same ▸ stacked) beyond
  next within => exact exec_snapRead h offset count tick (.ok _) fun t same => serveSnapRead_within inCount (same ▸ stacked) within

/-! ### SNAP_POP -/

theorem serveSnapPop_empty {s : State} (number : Nat) (empty : s.sns.stack = []) :
    serveSnapPop number s = (s, .bare .empty) := by
  simp [serveSnapPop, empty]

theorem serveSnapPop_named {s : State} {number : Nat} {below : List Snapshot} {top : Snapshot}
    (stacked : s.sns.stack = below ++ [top]) (named : top.number = number) :
    serveSnapPop number s = ({ s with sns := ⟨below, s.sns.nextNumber⟩ }, .ok [u4 number, u1 below.length]) := by
  simp [serveSnapPop, stacked, named]

theorem serveSnapPop_otherTop {s : State} {number : Nat} {below : List Snapshot} {top : Snapshot}
    (stacked : s.sns.stack = below ++ [top]) (other : top.number ≠ number) :
    serveSnapPop number s = (s, ⟨.conflict, [u4 top.number]⟩) := by
  simp [serveSnapPop, stacked, other]

/-- A SNAP_POP with a snapshot on top is judged by the top's number (R163). -/
theorem exec_snapPop_top {s : State} (h : s.ServesAtOnce) (number : Nat) (tick : Tick) {below : List Snapshot} {top : Snapshot}
    (stacked : s.sns.stack = below ++ [top]) :
    exec (.snapPop number tick) s =
      if top.number = number then
        .next (({ s.advance tick with sns := ⟨below, s.sns.nextNumber⟩ }).replied 0xC2 .ok [u4 number, u1 below.length])
      else .next ((s.advance tick).replied 0xC2 .conflict [u4 top.number]) := by
  split
  next named =>
    exact exec_servedAtOnce (r := .snapPop number) rfl nofun nofun h _ (.ok _) (fun _ => serveSnapPop_named stacked named) rfl
  next other =>
    exact exec_servedAtOnce (r := .snapPop number) rfl nofun nofun h (s.advance tick) ⟨.conflict, _⟩
      (fun _ => serveSnapPop_otherTop stacked other) rfl

/-- Settles O32: each request has a case for each way it is judged, and the reply to a read is the header of the top's kind and the
values asked for. -/
theorem snapshotsAreReadAndPopped : Obligations.SnapshotsAreReadAndPopped := by
  intro s tick h
  refine ⟨fun offset count outside => ?_, fun offset count pos le empty => ?_, fun number empty => ?_, fun below top stacked => ?_⟩
  · exact exec_snapRead h offset count tick (.bare .badValue) fun t _ => serveSnapRead_badCount t offset outside
  · exact exec_snapRead h offset count tick ⟨.empty, _⟩ fun t same => serveSnapRead_empty offset (by omega) (same ▸ empty)
  · exact exec_servedAtOnce (r := .snapPop number) rfl nofun nofun h (s.advance tick) (.bare .empty)
      (fun _ => serveSnapPop_empty number empty) rfl
  · have read offset count (pos : 1 ≤ count) (le : count ≤ 64) :=
      exec_snapRead_top h (offset := offset) (count := count) (by omega) tick stacked
    have pop number := exec_snapPop_top h number tick stacked
    cases body : top.body with
    | tsa va vs n samples speed regime =>
      simp only [readFields_tsa body, body] at read
      exact ⟨read, pop⟩
    | grid g vs thd pkw =>
      simp only [readFields_grid body, body] at read
      exact ⟨read, pop⟩

end Sys2Proof.Machine
end

section
/-! The HELLO request (R171). Its reply is a constant of the part: the bytes of the two names, the revision and the capacities. -/

namespace Sys2Proof.Machine

/-- The names of R171 in ASCII: BULTARA, then WM-6. The first step is by `rfl` and not by the equation lemma of `nameFields`, which
Lean cannot generate within its limits. -/
theorem nameFields_eq :
    nameFields = [0x42, 0x55, 0x4C, 0x54, 0x41, 0x52, 0x41, 0x57, 0x4D, 0x2D, 0x36].map u1 :=
  calc nameFields
    _ = ("BULTARA".toList ++ "WM-6".toList).map fun c => u1 c.toNat := rfl
    _ = ['B', 'U', 'L', 'T', 'A', 'R', 'A', 'W', 'M', '-', '6'].map fun c => u1 c.toNat := by
      simp only [String.reduceToList, List.cons_append, List.nil_append]
    _ = _ := rfl

theorem serveHello_eq (s : State) :
    serveHello s =
      (s, .ok ([0x42, 0x55, 0x4C, 0x54, 0x41, 0x52, 0x41, 0x57, 0x4D, 0x2D, 0x36, 1, 3, 12, 6, 24, 8, 8, 16, 32, 6, 250, 64].map
        u1)) := by
  rw [serveHello, nameFields_eq]
  rfl

/-- Settles O15: HELLO is a request served at once whose rule keeps the state, so the reply is all that it adds. -/
theorem helloIdentifiesThePart : Obligations.HelloIdentifiesThePart := fun s tick h =>
  exec_servedAtOnce (r := .hello) rfl nofun nofun h (s.advance tick) (.ok _) (fun _ => serveHello_eq _) rfl

end Sys2Proof.Machine
end

section
set_option Elab.async false
/-! Footprints. A block is a field of the state; `Changes` names the blocks an operation may change. An aspect is a preorder on
states, most often that something stands; `Evolves` names the aspects an operation may break. Each shared operation gets its
footprint once, and the laws of the device and the frames of the events are read off.

The proofs of this part are elaborated one after another (`Elab.async`): begun all at once, behind the long checks of the tests, they
would need more threads than the memory limit holds. -/

namespace Sys2Proof.Machine

/-! ### Blocks -/

/-- The fields of the state. -/
inductive Block where
  | phase | now | trk | acq | sav | ind | gra | rgc | icm | msc | skd | alt | sns | lnk | clk | sst | pending
deriving DecidableEq

/-- The block is the same in both states. -/
def Block.Stands (s t : State) : Block → Prop
  | .phase => t.phase = s.phase
  | .now => t.now = s.now
  | .trk => t.trk = s.trk
  | .acq => t.acq = s.acq
  | .sav => t.sav = s.sav
  | .ind => t.ind = s.ind
  | .gra => t.gra = s.gra
  | .rgc => t.rgc = s.rgc
  | .icm => t.icm = s.icm
  | .msc => t.msc = s.msc
  | .skd => t.skd = s.skd
  | .alt => t.alt = s.alt
  | .sns => t.sns = s.sns
  | .lnk => t.lnk = s.lnk
  | .clk => t.clk = s.clk
  | .sst => t.sst = s.sst
  | .pending => t.pending = s.pending

theorem Block.Stands.refl (s : State) (b : Block) : b.Stands s s := by cases b <;> rfl

theorem Block.Stands.trans {s t u : State} {b : Block} (h : b.Stands s t) (k : b.Stands t u) : b.Stands s u := by
  cases b <;> exact Eq.trans k h

/-- From `s` to `t` every block but those named stands. -/
def Changes (bs : List Block) (s t : State) : Prop := ∀ b, b ∉ bs → b.Stands s t

theorem Changes.refl (bs : List Block) (s : State) : Changes bs s s := fun b _ => .refl s b

theorem Changes.trans {bs : List Block} {s t u : State} (h : Changes bs s t) (k : Changes bs t u) : Changes bs s u :=
  fun b hb => (h b hb).trans (k b hb)

theorem Changes.mono {bs cs : List Block} {s t : State} (h : Changes bs s t) (sub : bs ⊆ cs := by decide) : Changes cs s t :=
  fun b hb => h b fun m => hb (sub m)

/-- The footprint of a record update: a state built from `s` and, in the blocks named, from `t`, is `t` by definition. -/
theorem Changes.of_eq {bs : List Block} {s t : State}
    (h : t =
      { phase := if .phase ∈ bs then t.phase else s.phase
        now := if .now ∈ bs then t.now else s.now
        trk := if .trk ∈ bs then t.trk else s.trk
        acq := if .acq ∈ bs then t.acq else s.acq
        sav := if .sav ∈ bs then t.sav else s.sav
        ind := if .ind ∈ bs then t.ind else s.ind
        gra := if .gra ∈ bs then t.gra else s.gra
        rgc := if .rgc ∈ bs then t.rgc else s.rgc
        icm := if .icm ∈ bs then t.icm else s.icm
        msc := if .msc ∈ bs then t.msc else s.msc
        skd := if .skd ∈ bs then t.skd else s.skd
        alt := if .alt ∈ bs then t.alt else s.alt
        sns := if .sns ∈ bs then t.sns else s.sns
        lnk := if .lnk ∈ bs then t.lnk else s.lnk
        clk := if .clk ∈ bs then t.clk else s.clk
        sst := if .sst ∈ bs then t.sst else s.sst
        pending := if .pending ∈ bs then t.pending else s.pending }) :
    Changes bs s t := by
  intro b hb
  rw [h]
  cases b <;> exact if_neg hb

/-! ### What the reporting blocks do -/

/-- An alert is placed and ATTN follows. -/
def AlertPlaced (phase : Phase) (l l' : Alt) : Prop := ∃ r, l' = (l.place r).withAttn phase

/-- A snapshot with the next number joins a stack that takes one. -/
def SnapshotTaken (n n' : Sns) : Prop :=
  ∃ p : Snapshot, p.number = n.nextNumber ∧ n.takes = true ∧ n' = ⟨n.stack ++ [p], n.nextNumber + 1⟩

/-- An item stands, or it is one that accrues, its count no lower and its state recomputed. -/
def Item.Grows (it it' : Item) : Prop :=
  it' = it ∨ (it.basis ≠ .none ∧ it.basis ≠ .calendar
    ∧ ∃ a, a ≤ max32 ∧ (it.accrued ≤ max32 → it.accrued ≤ a)
      ∧ it' = { it with accrued := a, state := ({ it with accrued := a } : Item).computedState })

theorem Item.Grows.refl (it : Item) : it.Grows it := .inl rfl

theorem Item.Grows.trans {a b c : Item} (h : a.Grows b) (k : b.Grows c) : a.Grows c := by
  rcases h with rfl | ⟨none, calendar, x, x_le, le_x, rfl⟩
  · exact k
  · rcases k with rfl | ⟨-, -, y, y_le, le_y, rfl⟩
    · exact .inr ⟨none, calendar, x, x_le, le_x, rfl⟩
    · exact .inr ⟨none, calendar, y, y_le, fun bound => (le_x bound).trans (le_y x_le), rfl⟩

/-- Only what icing gathers between evaluations may differ. -/
def Icm.Gathers (m m' : Icm) : Prop :=
  m' = { m with powerSum := m'.powerSum, powerCount := m'.powerCount, gathered := m'.gathered }

theorem Icm.Gathers.trans {a b c : Icm} (h : a.Gathers b) (k : b.Gathers c) : a.Gathers c := by
  unfold Icm.Gathers at *; rw [k, h]

/-! ### What gathering rests on -/

/-- The numbers of slots that a revolution may be cut into (R1). -/
abbrev cuts : List Nat := [64, 128, 256]

/-- A channel cuts its revolutions, and will cut them, into an allowed number of slots. -/
def Track.Cut (t : Track) : Prop :=
  t.settings.n ∈ cuts ∧ (∀ new, t.staged = some new → new.n ∈ cuts) ∧ ∀ rev, t.rev = some rev → rev.samples ∈ cuts

/-- `GatheringLaw` for one VA input. -/
def Sav.Gathered (v : Sav) : Prop := RisingSlots v.buffer ∧ v.acc.length = 256 ∧ v.samples ∈ cuts

/-- The law of gathering with what it rests on: allowed numbers of slots, and scan lists without repeats. -/
def Gathering (s : State) : Prop :=
  (∀ ch, (s.track ch).Cut) ∧ (∀ ch, (s.scanList ch).Nodup)
    ∧ (∀ ch sc, s.acq.scans.get ch = some sc → sc.entries.Nodup) ∧ (∀ va, (s.sav.get va).Gathered)
    ∧ ∀ g, RisingSlots (s.gra.inputs.get g).buffer

/-! ### Aspects -/

/-- What a footprint keeps an account of. -/
inductive Aspect where
  | phase | pending | clk | skd | lnk | sst | trk | alerts | snapshots | items | icing | icingSettings | table | inputs
  | gridSettings | regimeSettings | regime | indicators | grid | gathering
deriving DecidableEq

/-- The aspect is kept from `s` to `t`. -/
def Aspect.Kept (s t : State) : Aspect → Prop
  | .phase => t.phase = s.phase
  | .pending => t.pending = s.pending
  | .clk => t.clk = s.clk
  | .skd => t.skd = s.skd
  | .lnk => t.lnk = s.lnk
  | .sst => t.sst = s.sst
  | .trk => t.trk = s.trk
  | .alerts => t.phase = s.phase ∧ Relation.ReflTransGen (AlertPlaced s.phase) s.alt t.alt
  | .snapshots => Relation.ReflTransGen SnapshotTaken s.sns t.sns
  | .items => ∀ slot, (s.msc.get slot).Grows (t.msc.get slot)
  | .icing => s.icm.Gathers t.icm
  | .icingSettings => t.icm.settings = s.icm.settings ∧ t.icm.curve = s.icm.curve
  | .table => t.acq.table = s.acq.table
  | .inputs => ∀ va, (t.sav.get va).settings = (s.sav.get va).settings ∧ (t.sav.get va).owner = (s.sav.get va).owner
  | .gridSettings => t.gra.settings = s.gra.settings
  | .regimeSettings => t.rgc.settings = s.rgc.settings
  | .regime => t.trk.tl.lock.following = s.trk.tl.lock.following ∧ (RegimeLaw s → RegimeLaw t)
  | .indicators =>
    t.rgc.settings = s.rgc.settings ∧ (s.rgc.settings.InRange → IndicatorLaw s → IndicatorLaw t)
  | .grid => GridLaw s → GridLaw t
  | .gathering => Gathering s → Gathering t

theorem Aspect.Kept.refl (s : State) (a : Aspect) : a.Kept s s := by
  cases a with
  | phase | pending | clk | skd | lnk | sst | trk | table | gridSettings | regimeSettings | icing => rfl
  | alerts => exact ⟨rfl, .refl⟩
  | snapshots => exact Relation.ReflTransGen.refl
  | items => exact fun slot => .refl _
  | icingSettings => exact ⟨rfl, rfl⟩
  | inputs => exact fun va => ⟨rfl, rfl⟩
  | regime => exact ⟨rfl, id⟩
  | indicators => exact ⟨rfl, fun _ => id⟩
  | grid | gathering => exact id

theorem Aspect.Kept.trans {s t u : State} {a : Aspect} (h : a.Kept s t) (k : a.Kept t u) : a.Kept s u := by
  cases a with
  | phase | pending | clk | skd | lnk | sst | trk | table | gridSettings | regimeSettings => exact Eq.trans k h
  | icing => exact Icm.Gathers.trans h k
  | alerts =>
    obtain ⟨phase, placed⟩ := h
    obtain ⟨phase', placed'⟩ := k
    exact ⟨phase'.trans phase, placed.trans (phase ▸ placed')⟩
  | snapshots => exact Relation.ReflTransGen.trans h k
  | items => exact fun slot => (h slot).trans (k slot)
  | icingSettings => exact ⟨k.1.trans h.1, k.2.trans h.2⟩
  | inputs => exact fun va => ⟨(k va).1.trans (h va).1, (k va).2.trans (h va).2⟩
  | regime => exact ⟨k.1.trans h.1, k.2 ∘ h.2⟩
  | indicators =>
    obtain ⟨settings, law⟩ := h
    obtain ⟨settings', law'⟩ := k
    exact ⟨settings'.trans settings, fun inRange => law' (settings ▸ inRange) ∘ law inRange⟩
  | grid | gathering => exact k ∘ h

/-- From `s` to `t` every aspect but those named is kept. -/
def Evolves (free : List Aspect) (s t : State) : Prop := ∀ a, a ∉ free → a.Kept s t

theorem Evolves.refl (free : List Aspect) (s : State) : Evolves free s s := fun a _ => .refl s a

theorem Evolves.trans {free : List Aspect} {s t u : State} (h : Evolves free s t) (k : Evolves free t u) : Evolves free s u :=
  fun a ha => (h a ha).trans (k a ha)

theorem Evolves.mono {free more : List Aspect} {s t : State} (h : Evolves free s t) (sub : free ⊆ more := by decide) : Evolves more s t :=
  fun a ha => h a fun m => ha (sub m)

/-- A footprint with nothing named fits everywhere. -/
theorem Evolves.within {s t : State} (h : Evolves [] s t) (free : List Aspect) : Evolves free s t := h.mono (List.nil_subset _)

/-- An aspect that is kept after all need not be named. -/
theorem Evolves.fill {a : Aspect} {free : List Aspect} {s t : State} (h : Evolves (a :: free) s t) (kept : a.Kept s t) :
    Evolves free s t := fun b hb => by
  by_cases same : b = a
  · exact same ▸ kept
  · exact h b (by simp [same, hb])

theorem Evolves.foldl {α : Type} {free : List Aspect} {f : State → α → State} (h : ∀ s a, Evolves free s (f s a)) (l : List α)
    (s : State) : Evolves free s (l.foldl f s) :=
  foldl_rel (Evolves.refl free) Evolves.trans h l s

/-! ### From blocks to aspects -/

/-- The blocks that an aspect reads. -/
def Aspect.blocks : Aspect → List Block
  | .phase => [.phase]
  | .pending => [.pending]
  | .clk => [.clk]
  | .skd => [.skd]
  | .lnk => [.lnk]
  | .sst => [.sst]
  | .trk => [.trk]
  | .alerts => [.phase, .alt]
  | .snapshots => [.sns]
  | .items => [.msc]
  | .icing | .icingSettings => [.icm]
  | .table => [.acq]
  | .inputs => [.sav]
  | .gridSettings | .grid => [.gra]
  | .regimeSettings => [.rgc]
  | .regime => [.trk, .gra, .rgc]
  | .indicators => [.ind, .rgc]
  | .gathering => [.trk, .acq, .sav, .gra]

/-- An aspect is kept where the blocks it reads stand. -/
theorem Aspect.kept_of_stands {s t : State} {a : Aspect} (h : ∀ b ∈ a.blocks, b.Stands s t) : a.Kept s t := by
  cases a with
  | phase => exact h .phase (by simp [blocks])
  | pending => exact h .pending (by simp [blocks])
  | clk => exact h .clk (by simp [blocks])
  | skd => exact h .skd (by simp [blocks])
  | lnk => exact h .lnk (by simp [blocks])
  | sst => exact h .sst (by simp [blocks])
  | trk => exact h .trk (by simp [blocks])
  | alerts =>
    have alt : t.alt = s.alt := h .alt (by simp [blocks])
    exact ⟨h .phase (by simp [blocks]), alt ▸ .refl⟩
  | snapshots =>
    have sns : t.sns = s.sns := h .sns (by simp [blocks])
    change Relation.ReflTransGen SnapshotTaken s.sns t.sns
    rw [sns]
  | items =>
    have msc : t.msc = s.msc := h .msc (by simp [blocks])
    exact fun slot => msc ▸ .refl _
  | icing =>
    have icm : t.icm = s.icm := h .icm (by simp [blocks])
    simp [Aspect.Kept, Icm.Gathers, icm]
  | icingSettings =>
    have icm : t.icm = s.icm := h .icm (by simp [blocks])
    simp [Aspect.Kept, icm]
  | table =>
    have acq : t.acq = s.acq := h .acq (by simp [blocks])
    simp [Aspect.Kept, acq]
  | inputs =>
    have sav : t.sav = s.sav := h .sav (by simp [blocks])
    simp [Aspect.Kept, sav]
  | gridSettings =>
    have gra : t.gra = s.gra := h .gra (by simp [blocks])
    simp [Aspect.Kept, gra]
  | regimeSettings =>
    have rgc : t.rgc = s.rgc := h .rgc (by simp [blocks])
    simp [Aspect.Kept, rgc]
  | regime =>
    have trk : t.trk = s.trk := h .trk (by simp [blocks])
    have gra : t.gra = s.gra := h .gra (by simp [blocks])
    have rgc : t.rgc = s.rgc := h .rgc (by simp [blocks])
    simp [Aspect.Kept, RegimeLaw, trk, gra, rgc]
  | indicators =>
    have ind : t.ind = s.ind := h .ind (by simp [blocks])
    have rgc : t.rgc = s.rgc := h .rgc (by simp [blocks])
    simp [Aspect.Kept, IndicatorLaw, State.row, ind, rgc]
  | grid =>
    have gra : t.gra = s.gra := h .gra (by simp [blocks])
    simp [Aspect.Kept, GridLaw, gra]
  | gathering =>
    have trk : t.trk = s.trk := h .trk (by simp [blocks])
    have acq : t.acq = s.acq := h .acq (by simp [blocks])
    have sav : t.sav = s.sav := h .sav (by simp [blocks])
    have gra : t.gra = s.gra := h .gra (by simp [blocks])
    simp [Aspect.Kept, Gathering, State.track, State.scanList, trk, acq, sav, gra]

/-- Every aspect. -/
def Aspect.all : List Aspect :=
  [.phase, .pending, .clk, .skd, .lnk, .sst, .trk, .alerts, .snapshots, .items, .icing, .icingSettings, .table, .inputs,
    .gridSettings, .regimeSettings, .regime, .indicators, .grid, .gathering]

theorem Aspect.mem_all (a : Aspect) : a ∈ Aspect.all := by cases a <;> decide

/-- Only the aspects that read a changed block can be broken. -/
theorem Changes.evolves {bs : List Block} {free : List Aspect} {s t : State} (h : Changes bs s t)
    (readers : ∀ a ∈ Aspect.all, a ∈ free ∨ ∀ b ∈ a.blocks, b ∉ bs := by decide) : Evolves free s t :=
  fun a ha => Aspect.kept_of_stands fun b hb => h b ((readers a a.mem_all).resolve_left ha b hb)

end Sys2Proof.Machine
end

section
set_option Elab.async false
/-! The footprints of the operations that blocks share: alerts, snapshots, items, the regime, the averager, the evaluator and the
grid analyzer. -/

namespace Sys2Proof.Machine

/-! ### Alerts, snapshots and writes -/

theorem raise_evolves (s : State) (a : Alert) : Evolves [] s (s.raise a) :=
  ((Changes.of_eq rfl : Changes [.alt] s (s.raise a)).evolves (free := [.alerts])).fill ⟨rfl, .single ⟨a.stamped s, rfl⟩⟩

theorem raiseAll_evolves (s : State) (as : List Alert) : Evolves [] s (s.raiseAll as) := Evolves.foldl raise_evolves as s

theorem takeSnapshot_evolves (s : State) (b : SnapBody) : Evolves [] s (s.takeSnapshot b) := by
  refine ((Changes.of_eq rfl : Changes [.sns] s (s.takeSnapshot b)).evolves (free := [.snapshots])).fill ?_
  change Relation.ReflTransGen SnapshotTaken s.sns (s.takeSnapshot b).sns
  rw [State.takeSnapshot_sns]
  split
  next takes => exact .single ⟨_, rfl, takes, rfl⟩
  next => exact .refl

theorem requestWrite_evolves (s : State) : Evolves [.sst] s s.requestWrite :=
  (Changes.of_eq rfl : Changes [.sst] s s.requestWrite).evolves

/-! ### Items -/

theorem recompute_evolves (s : State) (slot : Fin 16) (it : Item)
    (grows : (s.msc.get slot).Grows { it with state := it.computedState }) : Evolves [] s (s.recompute slot it) := by
  have set : Evolves [.items] s (s.setItem slot { it with state := it.computedState }) :=
    (Changes.of_eq rfl : Changes [.msc] s (s.setItem slot { it with state := it.computedState })).evolves
  refine (set.trans ((raiseAll_evolves _ _).mono)).fill fun o => ?_
  have item := recompute_item s slot o it
  unfold State.recompute at item
  rw [item]
  split
  next same => exact same ▸ grows
  next => exact .refl _

/-- An accrual that concerns neither UNUSED items nor CALENDAR ones, as every accrual event does (R136). -/
abbrev SparesCalendar (concerns : Item → Bool) : Prop := ∀ it, concerns it = true → it.basis ≠ .none ∧ it.basis ≠ .calendar

theorem onBasis_sparesCalendar {b : Basis} (none : b ≠ .none) (calendar : b ≠ .calendar) : SparesCalendar (onBasis b) := by
  intro it concerned
  have basis : it.basis = b := by simpa [onBasis] using concerned
  exact basis ▸ ⟨none, calendar⟩

theorem onShaft_sparesCalendar (ch : Channel) : SparesCalendar (onShaft ch) := by
  intro it concerned
  have basis : it.basis = .revolutions := by simp_all [onShaft]
  simp [basis]

theorem onInput_sparesCalendar (va : Fin 6) : SparesCalendar (onInput va) := by
  intro it concerned
  have basis : it.basis = .damage := by simp_all [onInput]
  simp [basis]

theorem accrueAt_evolves {concerns : Item → Bool} (spares : SparesCalendar concerns) (amount : Nat) (s : State) (slot : Fin 16) :
    Evolves [] s (s.accrueAt concerns amount slot) := by
  unfold State.accrueAt
  dsimp only
  split
  next concerned =>
    obtain ⟨none, calendar⟩ := spares _ concerned
    refine recompute_evolves _ _ _ (.inr ⟨none, calendar, satAdd max32 (s.msc.get slot).accrued amount, ?_, fun bound => ?_, rfl⟩)
    · exact Nat.min_le_left ..
    · exact Nat.le_min.2 ⟨bound, Nat.le_add_right ..⟩
  next => exact .refl _ s

theorem accrue_evolves {concerns : Item → Bool} (spares : SparesCalendar concerns) (s : State) (amount : Nat) :
    Evolves [] s (s.accrue concerns amount) := by
  unfold State.accrue
  split
  · exact .refl _ s
  · exact Evolves.foldl (accrueAt_evolves spares amount) allSlots s

/-! ### The averager -/

theorem setSav_evolves (s : State) (va : Fin 6) (v : Sav) (settings : v.settings = (s.sav.get va).settings)
    (owner : v.owner = (s.sav.get va).owner) : Evolves [.gathering] s (s.setSav va v) := by
  refine ((Changes.of_eq rfl : Changes [.sav] s (s.setSav va v)).evolves (free := [.inputs, .gathering])).fill fun o => ?_
  rw [State.setSav_sav, Tab.get_set]
  split
  next same => exact same ▸ ⟨settings, owner⟩
  next => exact ⟨rfl, rfl⟩

theorem setSav_gathering (s : State) (va : Fin 6) (v : Sav) (fits : Gathering s → v.Gathered) :
    Gathering s → Gathering (s.setSav va v) := by
  intro held
  have fit := fits held
  obtain ⟨tracks, lists, scans, inputs, grid⟩ := held
  refine ⟨tracks, lists, scans, fun o => ?_, grid⟩
  rw [State.setSav_sav, Tab.get_set]
  split
  · exact fit
  · exact inputs o

theorem Gathering.sav {s : State} (held : Gathering s) (va : Fin 6) : (s.sav.get va).Gathered := held.2.2.2.1 va

theorem Gathering.track {s : State} (held : Gathering s) (ch : Channel) : (s.track ch).Cut := held.1 ch

/-- A clear takes the N in force on the input's owner. -/
theorem cleared_gathered {s : State} (held : Gathering s) (va : Fin 6) (owner : Option Channel) :
    ((s.sav.get va).cleared (owner.map fun ch => (s.track ch).settings.n)).Gathered := by
  obtain ⟨buffer, acc, samples⟩ := held.sav va
  refine ⟨buffer, acc, ?_⟩
  cases owner with
  | none => exact samples
  | some ch => exact (held.track ch).1

theorem clearTsa_evolves (s : State) (va : Fin 6) : Evolves [] s (s.clearTsa va) := by
  let v := (s.sav.get va).cleared ((s.sav.get va).owner.map fun ch => (s.track ch).settings.n)
  exact (setSav_evolves s va v rfl rfl).fill (setSav_gathering s va v fun held => cleared_gathered held va _)

theorem clearList_evolves (s : State) (ch : Channel) : Evolves [] s (s.clearList ch) :=
  Evolves.foldl clearTsa_evolves (s.vaList ch) s

theorem clearAllTsa_evolves (s : State) : Evolves [] s s.clearAllTsa := Evolves.foldl clearTsa_evolves allVa s

theorem setBuffer_evolves (s : State) (va : Fin 6) (b : Option RevBuffer)
    (rising : Gathering s → RisingSlots b) : Evolves [] s (s.setSav va { s.sav.get va with buffer := b }) :=
  (setSav_evolves s va { s.sav.get va with buffer := b } rfl rfl).fill <| setSav_gathering s va _ fun held => by
    obtain ⟨-, acc, samples⟩ := held.sav va
    exact ⟨rising held, acc, samples⟩

theorem setBuffers_evolves (s : State) (ch : Channel) {b : Option RevBuffer} (rising : RisingSlots b) :
    Evolves [] s (s.setBuffers ch b) :=
  Evolves.foldl (fun t va => setBuffer_evolves t va b fun _ => rising) (s.vaList ch) s

/-! ### The evaluator -/

/-- `IndicatorLaw` for one input, with the P of its active row. -/
def Ind.Lawful (i : Ind) (p : Nat) : Prop :=
  (∀ j, (i.levels.get j).rise < p ∧ (i.levels.get j).fall < p ∧ (i.levels.get j).rise ≤ 14 ∧ (i.levels.get j).fall ≤ 14)
    ∧ (i.computing = none → i.waiting = none) ∧ i.dropped ≤ 65535

theorem indicatorLaw_iff (s : State) :
    IndicatorLaw s ↔ ∀ va, (s.ind.get va).Lawful (s.row s.rgc.active va).persistence := Iff.rfl

/-- Where the active rows stand, a step that keeps each input's law keeps the whole (`1 ≤ P ≤ 15`). -/
theorem Changes.ind_evolves {s t : State} (h : Changes [.ind] s t)
    (law : ∀ va (row : Row), row = s.row s.rgc.active va → row.InRange → (s.ind.get va).Lawful row.persistence →
      (t.ind.get va).Lawful row.persistence) :
    Evolves [] s t := by
  have rgc : t.rgc = s.rgc := h .rgc (by decide)
  refine (h.evolves (free := [.indicators])).fill ⟨congrArg _ rgc, fun inRange lawful va => ?_⟩
  obtain ⟨-, -, rows⟩ := inRange
  have row : t.row t.rgc.active va = s.row s.rgc.active va := by simp [State.row, rgc]
  rw [row]
  exact law va _ rfl (rows _ _) (lawful va)

theorem setInd_evolves (s : State) (va : Fin 6) (v : Ind)
    (law : ∀ row : Row, row = s.row s.rgc.active va → row.InRange → (s.ind.get va).Lawful row.persistence →
      v.Lawful row.persistence) :
    Evolves [] s (s.setInd va v) := by
  refine (Changes.of_eq rfl : Changes [.ind] s (s.setInd va v)).ind_evolves fun o row active inRange lawful => ?_
  rw [State.setInd_ind, Tab.get_set]
  split
  next same => subst same; exact law row active inRange lawful
  next => exact lawful

theorem started_lawful {v : Ind} {p : Nat} (lawful : v.Lawful p) (c : Copies) (orders : Tab 4 Nat) (now : Tick) :
    (v.started c orders now).Lawful p := by
  obtain ⟨levels, waits, dropped⟩ := lawful
  unfold Ind.started
  split
  next => exact ⟨levels, nofun, dropped⟩
  next computing _ => exact ⟨levels, by simp [computing], dropped⟩
  next computing _ => exact ⟨levels, by simp [computing], Nat.min_le_left ..⟩

theorem startComputation_evolves (s : State) (va : Fin 6) (c : Copies) : Evolves [] s (s.startComputation va c) :=
  setInd_evolves s va _ fun _ _ _ lawful => started_lawful lawful ..

/-- The verdict on an input's part of a closing revolution (R43). -/
def Sav.verdictOn (v : Sav) (rev : OpenRev) : Verdict :=
  verdict rev (clippedCount rev.id v.buffer) (heldCount (completed rev.samples rev.id v.buffer))

/-- An input whose part of a closing revolution has been judged and counted (R44, R45). -/
def Sav.judgedOn (v : Sav) (rev : OpenRev) : Sav :=
  { v with
    counts := v.counts.counted (v.verdictOn rev), clipRun := clipRunAfter v.clipRun (clippedCount rev.id v.buffer), buffer := none }

/-- The values of an input's part of a closing revolution (R42). -/
def Sav.valuesOf (v : Sav) (rev : OpenRev) : List Int := (completed rev.samples rev.id v.buffer).map SlotSample.value

/-- The alerts of a close of one input (R45). -/
def Sav.closeAlerts (v : Sav) (va : Fin 6) (rev : OpenRev) : List Alert :=
  (saturatedAlert va v.clipRun (clippedCount rev.id v.buffer)).toList

theorem closeInput_eq (rev : OpenRev) (revNumber : Nat) (s : State) (va : Fin 6) :
    s.closeInput rev revNumber va =
      let v := s.sav.get va
      let t := (s.setSav va (v.judgedOn rev)).raiseAll (v.closeAlerts va rev)
      let u := (v.judgedOn rev).updated rev.samples (v.valuesOf rev)
      if v.verdictOn rev = .accepted then (t.setSav va u).startComputation va (u.copies revNumber (v.valuesOf rev)) else t := rfl

theorem updated_settings (v : Sav) (samples : Nat) (values : List Int) : (v.updated samples values).settings = v.settings := by
  unfold Sav.updated Sav.forSamples
  dsimp only
  split <;> rfl

theorem updated_owner (v : Sav) (samples : Nat) (values : List Int) : (v.updated samples values).owner = v.owner := by
  unfold Sav.updated Sav.forSamples
  dsimp only
  split <;> rfl

theorem closeInput_evolves (rev : OpenRev) (revNumber : Nat) (s : State) (va : Fin 6) :
    Evolves [.gathering] s (s.closeInput rev revNumber va) := by
  rw [closeInput_eq]
  dsimp only
  let v := s.sav.get va
  let t := (s.setSav va (v.judgedOn rev)).raiseAll (v.closeAlerts va rev)
  have counted : Evolves [.gathering] s t := (setSav_evolves s va (v.judgedOn rev) rfl rfl).trans (raiseAll_evolves _ _).mono
  have sav : t.sav.get va = v.judgedOn rev := by
    rw [show t.sav = s.sav.set va (v.judgedOn rev) by rw [show t = _ from raiseAll_onlyAlt ..]; rfl, Tab.get_set_self]
  split
  · refine (counted.trans (setSav_evolves t va _ ?_ ?_)).trans (startComputation_evolves _ va _).mono
    · rw [updated_settings, sav]
    · rw [updated_owner, sav]
  · exact counted

theorem closeShaft_evolves (s : State) (ch : Channel) (rev : OpenRev) (revNumber : Nat) :
    Evolves [.gathering] s (s.closeShaft ch rev revNumber) :=
  Evolves.foldl (closeInput_evolves rev revNumber) (s.vaList ch) s

end Sys2Proof.Machine
end

section
set_option Elab.async false
/-! The footprints of the regime classifier, of the end of a computation and of what icing gathers, and the law of the regime over a
block close. -/

namespace Sys2Proof.Machine

/-! ### The regime -/

theorem zeroed_lawful {v : Ind} {p q : Nat} (lawful : v.Lawful p) (positive : 1 ≤ q) : v.zeroed.Lawful q := by
  obtain ⟨-, waits, dropped⟩ := lawful
  refine ⟨fun j => ?_, waits, dropped⟩
  have level : v.zeroed.levels.get j = (v.levels.get j).zeroed := Tab.get_map ..
  simp only [level, LevelState.zeroed]
  omega

/-- Entering a regime moves the regime, the active profile and, where that differs, the counters. -/
theorem enterRegime_evolves (s : State) (r : Fin 8) : Evolves [.regime] s (s.enterRegime r) := by
  have changes : Changes [.rgc, .ind] s (s.enterRegime r) := Changes.of_eq rfl
  have settings : (s.enterRegime r).rgc.settings = s.rgc.settings := rfl
  refine ((changes.evolves (free := [.indicators, .regimeSettings, .regime])).fill ⟨settings, fun inRange lawful va => ?_⟩).fill
    settings
  obtain ⟨-, -, rows⟩ := inRange
  obtain ⟨positive, -, -⟩ := rows (s.rgc.settings.map.get r) va
  rw [enterRegime_eq]
  change Ind.Lawful ((Tab.ofFn _).get va) _
  rw [Tab.get_ofFn]
  split
  next same => rw [show State.row _ (s.rgc.settings.map.get r) va = s.row s.rgc.active va by rw [same]; rfl]; exact lawful va
  next => exact zeroed_lawful (lawful va) positive

theorem clearCandidate_evolves (s : State) : Evolves [] s s.clearCandidate := by
  have changes : Changes [.rgc] s s.clearCandidate := Changes.of_eq rfl
  have law (h : RegimeLaw s) : RegimeLaw s.clearCandidate := by
    obtain ⟨parked, -, -, active⟩ := h
    exact ⟨parked, fun _ => rfl, fun _ => rfl, active⟩
  exact (((changes.evolves (free := [.regime, .indicators, .regimeSettings])).fill ⟨rfl, law⟩).fill ⟨rfl, fun _ h => h⟩).fill rfl

theorem park_evolves (s : State) : Evolves [.regime] s s.park :=
  ((clearCandidate_evolves s).mono).trans (enterRegime_evolves s.clearCandidate 0)

theorem unpark_evolves (s : State) : Evolves [.regime] s s.unpark :=
  ((clearCandidate_evolves s).mono).trans (enterRegime_evolves s.clearCandidate 1)

theorem classify_evolves (s : State) (pkw : Int) : Evolves [.regime] s (s.classify pkw) := by
  have held (d : Option Candidate) : Evolves [.regime] s { s with rgc := { s.rgc with candidate := d } } := by
    have changes : Changes [.rgc] s { s with rgc := { s.rgc with candidate := d } } := Changes.of_eq rfl
    exact ((changes.evolves (free := [.indicators, .regimeSettings, .regime])).fill ⟨rfl, fun _ h => h⟩).fill rfl
  unfold State.classify
  dsimp only
  split
  · split
    · exact (held _).trans (enterRegime_evolves _ _)
    · exact held _
  · exact .refl _ s

theorem powerClass_ne_zero (b : Tab 6 Nat) (pkw : Int) : powerClass b pkw ≠ 0 := by
  intro zero
  have val := powerClass_val b pkw
  rw [zero] at val
  simp at val
  omega

/-- While power is known a block close keeps the law of the regime: a class is never PARKED. -/
theorem classify_regimeLaw {s : State} (pkw : Int) (known : s.gra.power ≠ none) (law : RegimeLaw s) :
    RegimeLaw (s.classify pkw) := by
  obtain ⟨parked, candidate, power, active⟩ := law
  unfold State.classify
  dsimp only
  split
  next following =>
    have off (b : Prop) : s.trk.tl.lock.following = false → b := fun h => by simp [following] at h
    split
    · exact ⟨⟨off _, fun zero => absurd zero (powerClass_ne_zero _ _)⟩, off _, fun h => absurd h known, rfl⟩
    · exact ⟨parked, off _, fun h => absurd h known, active⟩
  next => exact ⟨parked, candidate, power, active⟩

theorem classify_tl (s : State) (pkw : Int) : (s.classify pkw).trk.tl = s.trk.tl := by
  have trk : (s.classify pkw).trk = s.trk := classify_evolves s pkw .trk (by decide)
  rw [trk]

/-! ### What icing gathers -/

theorem Changes.icm_evolves {s t : State} (h : Changes [.icm] s t) (gathers : s.icm.Gathers t.icm) : Evolves [] s t := by
  have settings : t.icm.settings = s.icm.settings := by rw [gathers]
  have curve : t.icm.curve = s.icm.curve := by rw [gathers]
  exact ((h.evolves (free := [.icing, .icingSettings])).fill gathers).fill ⟨settings, curve⟩

theorem gatherPower_evolves (s : State) (pkw : Int) : Evolves [] s (s.gatherPower pkw) :=
  (Changes.of_eq rfl : Changes [.icm] s (s.gatherPower pkw)).icm_evolves rfl

theorem gatherO1_evolves (s : State) (va : Fin 6) (value : Nat) (owner : Option Channel) :
    Evolves [] s (s.gatherO1 va value owner) := by
  refine (Changes.of_eq rfl : Changes [.icm] s (s.gatherO1 va value owner)).icm_evolves ?_
  unfold State.gatherO1
  dsimp only
  split <;> rfl

theorem handOrder1_evolves (s : State) (va : Fin 6) (t : IndicatorSet) : Evolves [] s (s.handOrder1 va t) := by
  unfold State.handOrder1
  split
  · split
    · exact gatherO1_evolves _ _ _ _
    · exact .refl _ s
  · exact .refl _ s

/-! ### The end of a computation -/

/-- A rise or fall counter that would reach P returns to 0 (R96). -/
theorem evaluated_counters {l : LevelState} {p : Nat} (rise : l.rise < p) (fall : l.fall < p) (pair : LevelPair) (v : Nat) :
    (l.evaluated pair p v).rise < p ∧ (l.evaluated pair p v).fall < p := by
  have positive : 0 < p := by omega
  unfold LevelState.evaluated
  dsimp only
  split
  · split
    · exact ⟨positive, positive⟩
    · exact ⟨by dsimp only; omega, positive⟩
  · split
    · exact ⟨positive, positive⟩
    · split
      · exact ⟨positive, positive⟩
      · split
        · split
          · exact ⟨positive, positive⟩
          · exact ⟨positive, by dsimp only; omega⟩
        · exact ⟨positive, positive⟩

theorem finished_lawful {v : Ind} {row : Row} (inRange : row.InRange) (lawful : v.Lawful row.persistence) (t : IndicatorSet)
    (orders : Tab 4 Nat) (now : Tick) :
    (v.finished t (evaluatedLevels t orders row v.levels) orders now).Lawful row.persistence := by
  obtain ⟨-, p_le, -⟩ := inRange
  obtain ⟨levels, -, dropped⟩ := lawful
  refine ⟨fun j => ?_, fun _ => rfl, dropped⟩
  obtain ⟨rise, fall, rise_le, fall_le⟩ := levels j
  simp only [Ind.finished, evaluatedLevels, Tab.get_ofFn]
  split
  next x _ =>
    obtain ⟨rise', fall'⟩ := evaluated_counters rise fall (row.levels.get j) x
    omega
  next => exact ⟨rise, fall, rise_le, fall_le⟩

theorem endComputation_evolves (s : State) (va : Fin 6) (comp : Computation) : Evolves [] s (s.endComputation va comp) := by
  unfold State.endComputation
  dsimp only
  refine Evolves.trans (Evolves.trans (Evolves.trans (Evolves.trans
    (t := s.setInd va ((s.ind.get va).finished comp.result (evaluatedLevels comp.result (s.sav.get va).settings.orders
      (s.activeRow va) (s.ind.get va).levels) (s.sav.get va).settings.orders s.now)) ?_ ?_) (raiseAll_evolves _ _))
    (accrue_evolves (onInput_sparesCalendar va) _ _)) (handOrder1_evolves _ va _)
  · refine setInd_evolves s va _ fun row active inRange lawful => ?_
    rw [State.activeRow, ← active]
    exact finished_lawful inRange lawful ..
  · split
    · exact takeSnapshot_evolves _ _
    · exact .refl _ _

end Sys2Proof.Machine
end

section
set_option Elab.async false
/-! The footprints of the grid analyzer and its law (R63, R64, R68, R70). Between the tenth accepted cycle of a block and the block's
close the count is 10, so the law is proved over a cycle's close as a whole. -/

namespace Sys2Proof.Machine

/-! ### The law, part by part -/

/-- `GridLaw` for one input. -/
def GridInput.Lawful (i : GridInput) (g : Fin 6) : Prop :=
  i.harmonic.Counts ∧ i.thd.Counts ∧ (i.harmonic.exceeded = true ↔ i.harmonic.named.isSome)
    ∧ (∀ m, i.harmonic.named = some m → 2 ≤ m ∧ m ≤ 25) ∧ i.thd.named = none
    ∧ (3 ≤ g.val → i.harmonic = ⟨false, 0, 0, none⟩)
    ∧ ∀ r, i.result = some r → r.hb.length = 25 ∧ r.thd ≤ 9999

/-- `GridLaw` for the square sums of an open block. -/
def OpenBlock.Squares25 (b : OpenBlock) : Prop := ∀ g, (b.squares.get g).length = 25

theorem gridLaw_iff (s : State) :
    GridLaw s ↔ s.gra.remainder < 7200000000 ∧ s.gra.energy ≤ 4294967295
      ∧ (∀ b, s.gra.block = some b → b.accepted ≤ 9 ∧ b.rejected ≤ 65535 ∧ b.Squares25)
      ∧ ∀ g, (s.gra.inputs.get g).Lawful g := Iff.rfl

/-- A change of the grid analyzer and its buffers keeps the law of gathering where the buffers keep it. -/
theorem Changes.gra_gathering {s t : State} (h : Changes [.gra, .rgc] s t)
    (rising : (∀ g, RisingSlots (s.gra.inputs.get g).buffer) → ∀ g, RisingSlots (t.gra.inputs.get g).buffer) :
    Gathering s → Gathering t := by
  have trk : t.trk = s.trk := h .trk (by decide)
  have acq : t.acq = s.acq := h .acq (by decide)
  have sav : t.sav = s.sav := h .sav (by decide)
  intro ⟨tracks, lists, scans, inputs, grid⟩
  refine ⟨?_, ?_, ?_, ?_, rising grid⟩
  · simpa only [State.track, trk] using tracks
  · simpa only [State.scanList, acq] using lists
  · simpa only [acq] using scans
  · simpa only [sav] using inputs

/-- A change of the grid analyzer that leaves its settings and the known power. -/
theorem Changes.gra_evolves {s t : State} (h : Changes [.gra] s t) (settings : t.gra.settings = s.gra.settings)
    (power : t.gra.power = s.gra.power) (law : GridLaw s → GridLaw t)
    (rising : (∀ g, RisingSlots (s.gra.inputs.get g).buffer) → ∀ g, RisingSlots (t.gra.inputs.get g).buffer := by exact id) :
    Evolves [] s t := by
  have trk : t.trk = s.trk := h .trk (by decide)
  have rgc : t.rgc = s.rgc := h .rgc (by decide)
  refine ((((h.evolves (free := [.regime, .grid, .gridSettings, .gathering])).fill ?_).fill law).fill settings).fill
    (h.mono.gra_gathering rising)
  simp [Aspect.Kept, RegimeLaw, trk, rgc, power]

theorem setGridInput_evolves (s : State) (g : Fin 6) (v : GridInput)
    (law : (s.gra.inputs.get g).Lawful g → v.Lawful g)
    (rising : RisingSlots (s.gra.inputs.get g).buffer → RisingSlots v.buffer) : Evolves [] s (s.setGridInput g v) := by
  refine (Changes.of_eq rfl : Changes [.gra] s (s.setGridInput g v)).gra_evolves rfl rfl (fun lawful => ?_) fun before o => ?_
  · obtain ⟨remainder, energy, block, inputs⟩ := (gridLaw_iff s).1 lawful
    refine (gridLaw_iff _).2 ⟨remainder, energy, block, fun o => ?_⟩
    rw [State.setGridInput_gra]
    dsimp only
    rw [Tab.get_set]
    split
    next same => subst same; exact law (inputs g)
    next => exact inputs o
  · rw [State.setGridInput_gra]
    dsimp only
    rw [Tab.get_set]
    split
    · exact rising (before g)
    · exact before o

theorem setGridBuffer_evolves (s : State) (g : Fin 6) (b : Option RevBuffer)
    (rising : RisingSlots (s.gra.inputs.get g).buffer → RisingSlots b) :
    Evolves [] s (s.setGridInput g { s.gra.inputs.get g with buffer := b }) :=
  setGridInput_evolves s g _ (fun lawful => lawful) rising

theorem setCycleBuffers_evolves (s : State) {b : Option RevBuffer} (rising : RisingSlots b) : Evolves [] s (s.setCycleBuffers b) :=
  Evolves.foldl (fun t g => setGridBuffer_evolves t g b fun _ => rising) s.present s

theorem discardBlock_evolves (s : State) : Evolves [] s s.discardBlock := by
  refine (Changes.of_eq rfl : Changes [.gra] s s.discardBlock).gra_evolves rfl rfl fun lawful => ?_
  obtain ⟨remainder, energy, -, inputs⟩ := (gridLaw_iff s).1 lawful
  exact (gridLaw_iff _).2 ⟨remainder, energy, nofun, inputs⟩

/-! ### Limits -/

theorem reportLimit_evolves (s : State) (before after : Bool) (body : SnapBody) (alert : Severity → SnapField → Alert) :
    Evolves [] s (s.reportLimit before after body alert) := by
  unfold State.reportLimit
  split
  · exact (takeSnapshot_evolves s body).trans (raise_evolves _ _)
  · exact raise_evolves s _
  · exact .refl _ s

theorem checked_counts {l : LimitState} (h : l.Counts) (exceeds : Bool) (worst : Option Nat) :
    (l.checked exceeds worst).Counts := by
  obtain ⟨exceed, within⟩ := h
  unfold LimitState.checked
  split
  · split
    · exact ⟨by simp, by simp⟩
    · exact ⟨by dsimp only; omega, within⟩
  · exact ⟨by simp, within⟩
  · split
    · exact ⟨by simp [LimitState.normal], by simp [LimitState.normal]⟩
    · exact ⟨exceed, by dsimp only; omega⟩
  · exact ⟨exceed, by simp⟩

/-- The order that a limit state names after a check: the one it named, none, or, on entering EXCEEDED, the worst one. -/
theorem checked_named (l : LimitState) (exceeds : Bool) (worst : Option Nat) :
    ((l.checked exceeds worst).exceeded = l.exceeded ∧ (l.checked exceeds worst).named = l.named)
      ∨ ((l.checked exceeds worst).exceeded = true ∧ exceeds = true ∧ (l.checked exceeds worst).named = worst)
      ∨ ((l.checked exceeds worst).exceeded = false ∧ (l.checked exceeds worst).named = none) := by
  unfold LimitState.checked
  split <;> try split
  all_goals simp_all [LimitState.normal]

theorem worstOrder_mem {hb orders : List Nat} {w : Nat} (h : worstOrder hb orders = some w) : w ∈ orders := by
  induction orders generalizing w with
  | nil => simp [worstOrder] at h
  | cons m rest ih =>
    unfold worstOrder at h
    split at h
    next => simp_all
    next v found =>
      split at h
      · exact .tail _ (ih (by simpa using found.trans h))
      · simp_all

theorem exceedingOrders_range {t : GridSettings} {hb : List Nat} {m : Nat} (h : m ∈ exceedingOrders t hb) : 2 ≤ m ∧ m ≤ 25 := by
  have bounds : ∀ k ∈ gridOrders.drop 1, 2 ≤ k ∧ k ≤ 25 := by decide
  exact bounds m (List.mem_of_mem_filter h)

theorem harmonic_lawful {i : GridInput} {g : Fin 6} (low : g.val < 3) (lawful : i.Lawful g) (t : GridSettings) (hb : List Nat) :
    ({ i with
      harmonic := i.harmonic.checked (worstOrder hb (exceedingOrders t hb)).isSome (worstOrder hb (exceedingOrders t hb)) } :
        GridInput).Lawful g := by
  obtain ⟨harmonic, thd, names, range, thdNamed, -, result⟩ := lawful
  refine ⟨checked_counts harmonic .., thd, ?_, ?_, thdNamed, fun high => absurd high (by omega), result⟩
  · rcases checked_named i.harmonic (worstOrder hb (exceedingOrders t hb)).isSome (worstOrder hb (exceedingOrders t hb)) with
      ⟨exceeded, named⟩ | ⟨exceeded, worst, named⟩ | ⟨exceeded, named⟩
    · simpa only [exceeded, named] using names
    · rw [exceeded, named, worst]
    · simp [exceeded, named]
  · intro m hm
    rcases checked_named i.harmonic (worstOrder hb (exceedingOrders t hb)).isSome (worstOrder hb (exceedingOrders t hb)) with
      ⟨-, named⟩ | ⟨-, -, named⟩ | ⟨-, named⟩
    · exact range m (named.symm.trans hm)
    · exact exceedingOrders_range (worstOrder_mem (named.symm.trans hm))
    · exact absurd (named.symm.trans hm) nofun

theorem thd_lawful {i : GridInput} {g : Fin 6} (lawful : i.Lawful g) (exceeds : Bool) :
    ({ i with thd := i.thd.checked exceeds none } : GridInput).Lawful g := by
  obtain ⟨harmonic, thd, names, range, thdNamed, current, result⟩ := lawful
  refine ⟨harmonic, checked_counts thd .., names, range, ?_, current, result⟩
  rcases checked_named i.thd exceeds none with ⟨-, named⟩ | ⟨-, -, named⟩ | ⟨-, named⟩
  · exact named.trans thdNamed
  · exact named
  · exact named

theorem checkHarmonic_evolves {g : Fin 6} (low : g.val < 3) (s : State) (r : GridResult) (body : SnapBody) :
    Evolves [] s (s.checkHarmonic g r body) := by
  unfold State.checkHarmonic
  exact (setGridInput_evolves s g _ (fun lawful => harmonic_lawful low lawful ..) id).trans (reportLimit_evolves _ _ _ _ _)

theorem checkThd_evolves (s : State) (g : Fin 6) (r : GridResult) (body : SnapBody) : Evolves [] s (s.checkThd g r body) := by
  unfold State.checkThd
  exact (setGridInput_evolves s g _ (fun lawful => thd_lawful lawful ..) id).trans (reportLimit_evolves _ _ _ _ _)

theorem checkInput_evolves (results : Tab 6 GridResult) (pkw : Option Int) (s : State) (g : Fin 6) :
    Evolves [] s (s.checkInput results pkw g) := by
  unfold State.checkInput
  dsimp only
  split
  · exact .refl _ s
  · refine Evolves.trans ?_ (checkThd_evolves _ g _ _)
    split
    next low => exact checkHarmonic_evolves low s _ _
    next => exact .refl _ s

theorem checkLimits_evolves (s : State) (clipped : Bool) (results : Tab 6 GridResult) (pkw : Option Int) :
    Evolves [] s (s.checkLimits clipped results pkw) := by
  unfold State.checkLimits
  split
  · exact .refl _ s
  · exact Evolves.foldl (checkInput_evolves results pkw) s.present s

/-! ### Energy and power -/

theorem repeatTimes_evolves {free : List Aspect} {f : State → State} (h : ∀ s, Evolves free s (f s)) (n : Nat) (s : State) :
    Evolves free s (repeatTimes f n s) := by
  induction n generalizing s with
  | zero => exact .refl _ s
  | succ n ih => exact (h s).trans (ih _)

theorem addEnergy_evolves (s : State) (pkw : Int) (elapsed : Nat) : Evolves [] s (s.addEnergy pkw elapsed) := by
  unfold State.addEnergy
  dsimp only
  generalize s.gra.remainder + (max 0 pkw).toNat * elapsed = sum
  refine Evolves.trans (t := { s with
    gra := { s.gra with energy := satAdd max32 s.gra.energy (sum / kwhTicks), remainder := sum % kwhTicks } }) ?_
    (repeatTimes_evolves (fun t => accrue_evolves (onBasis_sparesCalendar (b := .energy) nofun nofun) t 1) _ _)
  refine (Changes.of_eq rfl : Changes [.gra] s _).gra_evolves rfl rfl fun lawful => ?_
  obtain ⟨-, -, block, inputs⟩ := (gridLaw_iff s).1 lawful
  exact (gridLaw_iff _).2 ⟨Nat.mod_lt _ (by decide), Nat.min_le_left .., block, inputs⟩

/-- The class that a block close forms once its power is known. -/
theorem refreshPower_classify_evolves (s : State) (pkw : Int) : Evolves [] s ((s.refreshPower pkw).classify pkw) := by
  have refresh : Evolves [.regime] s (s.refreshPower pkw) :=
    ((Changes.of_eq rfl : Changes [.gra] s (s.refreshPower pkw)).evolves (free := [.gathering, .grid, .gridSettings, .regime])).fill
      (fun held => held) |>.fill (fun lawful => lawful) |>.fill rfl
  refine (refresh.trans (classify_evolves _ pkw)).fill ⟨?_, fun law => classify_regimeLaw pkw nofun ?_⟩
  · rw [classify_tl]; rfl
  · obtain ⟨parked, candidate, -, active⟩ := law
    exact ⟨parked, candidate, nofun, active⟩

theorem handPower_evolves (s : State) (pkw : Option Int) (elapsed : Nat) : Evolves [] s (s.handPower pkw elapsed) := by
  unfold State.handPower
  split
  · exact .refl _ s
  · exact ((addEnergy_evolves s _ elapsed).trans (refreshPower_classify_evolves _ _)).trans (gatherPower_evolves _ _)

theorem powerUnknown_evolves (s : State) : Evolves [] s s.powerUnknown := by
  have changes : Changes [.gra, .rgc] s s.powerUnknown := Changes.of_eq rfl
  have law (h : RegimeLaw s) : RegimeLaw s.powerUnknown := by
    obtain ⟨parked, -, -, active⟩ := h
    exact ⟨parked, fun _ => rfl, fun _ => rfl, active⟩
  exact (((((changes.evolves (free := [.regime, .indicators, .regimeSettings, .grid, .gridSettings, .gathering])).fill
    ⟨rfl, law⟩).fill ⟨rfl, fun _ h => h⟩).fill rfl).fill fun h => h).fill rfl |>.fill fun h => h

/-! ### The close of a cycle -/

theorem addSquares_length (qs hs : List Nat) : (addSquares qs hs).length = qs.length := by
  induction qs generalizing hs with
  | nil => cases hs <;> rfl
  | cons q qs ih => cases hs <;> simp [addSquares, ih]

theorem distortion_le (hb : List Nat) : distortion hb ≤ 9999 := by
  unfold distortion
  split
  · exact Nat.zero_le _
  · exact Nat.min_le_left ..

theorem blockAccepting_squares25 {b : OpenBlock} (h : b.Squares25) (s : State) (rev : RevId) :
    (s.blockAccepting rev b).Squares25 := by
  intro g
  simp only [State.blockAccepting, Tab.get_ofFn]
  split
  · exact (addSquares_length ..).trans (h g)
  · exact h g

theorem openedBlock_squares25 (s : State) (start : Tick) : (s.openedBlock start).Squares25 := fun g => by
  simp [State.openedBlock]

/-- The open block after a cycle's close, before the block may be closed (R63). -/
def State.joinedBlock (s : State) (rev : OpenRev) : OpenBlock :=
  let b := s.gra.block.getD (s.openedBlock rev.openedAt)
  if s.cycleVerdict rev = .accepted then s.blockAccepting rev.id b else b.rejecting

/-- The state after a cycle has been judged and counted and has joined its block (R60, R63). -/
def State.joined (s : State) (rev : OpenRev) : State :=
  { s with gra := { s.gra with counts := s.gra.counts.counted (s.cycleVerdict rev), block := some (s.joinedBlock rev) } }

theorem closeCycle_eq (s : State) (rev : OpenRev) (closedAt : Tick) :
    s.closeCycle rev closedAt =
      if s.cycleVerdict rev = .accepted ∧ (s.joinedBlock rev).accepted ≥ 10 then
        (s.joined rev).closeBlock (s.joinedBlock rev) closedAt
      else s.joined rev := rfl

theorem joinedBlock_squares25 {s : State} (lawful : GridLaw s) (rev : OpenRev) : (s.joinedBlock rev).Squares25 := by
  obtain ⟨-, -, block, -⟩ := (gridLaw_iff s).1 lawful
  have before : (s.gra.block.getD (s.openedBlock rev.openedAt)).Squares25 := by
    cases held : s.gra.block with
    | none => exact openedBlock_squares25 s _
    | some b => exact (block b held).2.2
  unfold State.joinedBlock
  dsimp only
  split
  · exact blockAccepting_squares25 before s _
  · exact before

theorem joinedBlock_rejected {s : State} (lawful : GridLaw s) (rev : OpenRev) : (s.joinedBlock rev).rejected ≤ 65535 := by
  obtain ⟨-, -, block, -⟩ := (gridLaw_iff s).1 lawful
  have before : (s.gra.block.getD (s.openedBlock rev.openedAt)).rejected ≤ 65535 := by
    cases held : s.gra.block with
    | none => exact Nat.zero_le _
    | some b => exact (block b held).2.1
  unfold State.joinedBlock
  dsimp only
  split
  · exact before
  · exact Nat.min_le_left ..

/-- A cycle that does not bring its block to ten accepted ones leaves at most nine. -/
theorem joinedBlock_accepted {s : State} (lawful : GridLaw s) (rev : OpenRev)
    (open' : ¬(s.cycleVerdict rev = .accepted ∧ (s.joinedBlock rev).accepted ≥ 10)) : (s.joinedBlock rev).accepted ≤ 9 := by
  obtain ⟨-, -, block, -⟩ := (gridLaw_iff s).1 lawful
  by_cases accepted : s.cycleVerdict rev = .accepted
  · exact Nat.le_of_not_lt fun ten => open' ⟨accepted, ten⟩
  · unfold State.joinedBlock
    simp only [accepted, if_false]
    cases held : s.gra.block with
    | none => exact Nat.zero_le _
    | some b => exact (block b held).1

theorem storeResults_evolves (s : State) (rev : OpenRev) (elapsed : Nat) (pkw : Option Int) :
    Evolves [] s
      ((s.joined rev).storeResults (s.joinedBlock rev) ((s.joinedBlock rev).squares.map gridResult) elapsed pkw) := by
  refine (Changes.of_eq rfl : Changes [.gra] s _).gra_evolves rfl rfl (fun lawful => ?_) fun before g => ?_
  case refine_2 =>
    simp only [State.storeResults, Tab.get_ofFn]
    split <;> exact before g
  have squares := joinedBlock_squares25 lawful rev
  obtain ⟨remainder, energy, -, inputs⟩ := (gridLaw_iff s).1 lawful
  refine (gridLaw_iff _).2 ⟨remainder, energy, nofun, fun g => ?_⟩
  simp only [State.storeResults, Tab.get_ofFn]
  split
  · obtain ⟨harmonic, thd, names, range, thdNamed, current, -⟩ := inputs g
    refine ⟨harmonic, thd, names, range, thdNamed, current, fun r hr => ?_⟩
    obtain rfl : gridResult ((s.joinedBlock rev).squares.get g) = r := by simpa using hr
    exact ⟨by simp [gridResult, blockAmplitudes, squares g], distortion_le _⟩
  · exact inputs g

theorem closeCycle_evolves (s : State) (rev : OpenRev) (closedAt : Tick) : Evolves [] s (s.closeCycle rev closedAt) := by
  rw [closeCycle_eq]
  split
  · exact ((storeResults_evolves s rev _ _).trans (checkLimits_evolves _ _ _ _)).trans (handPower_evolves _ _ _)
  next open' =>
    refine (Changes.of_eq rfl : Changes [.gra] s (s.joined rev)).gra_evolves rfl rfl fun lawful => ?_
    obtain ⟨remainder, energy, -, inputs⟩ := (gridLaw_iff s).1 lawful
    refine (gridLaw_iff _).2 ⟨remainder, energy, fun b hb => ?_, inputs⟩
    obtain rfl : s.joinedBlock rev = b := by simpa [State.joined] using hb
    exact ⟨joinedBlock_accepted lawful rev open', joinedBlock_rejected lawful rev, joinedBlock_squares25 lawful rev⟩

end Sys2Proof.Machine
end

section
set_option Elab.async false
/-! The footprints of sampling and of tracking. Sampling moves scans, the converter and buffers; an edge moves its channel and, at a
close, what the closed revolution is handed to. -/

namespace Sys2Proof.Machine

/-! ### Sampling -/

theorem Changes.acq_evolves {s t : State} (h : Changes [.acq] s t) (table : t.acq.table = s.acq.table)
    (fits : Gathering s → ∀ ch sc, t.acq.scans.get ch = some sc → sc.entries.Nodup) : Evolves [] s t := by
  have trk : t.trk = s.trk := h .trk (by decide)
  have sav : t.sav = s.sav := h .sav (by decide)
  have gra : t.gra = s.gra := h .gra (by decide)
  refine ((h.evolves (free := [.table, .gathering])).fill table).fill fun held => ?_
  have pending := fits held
  obtain ⟨tracks, lists, -, inputs, grid⟩ := held
  refine ⟨?_, ?_, pending, ?_, ?_⟩
  · simpa only [State.track, trk] using tracks
  · simpa only [State.scanList, table] using lists
  · simpa only [sav] using inputs
  · simpa only [gra] using grid

theorem Gathering.scan {s : State} (held : Gathering s) {ch : Channel} {sc : Scan} (pending : s.acq.scans.get ch = some sc) :
    sc.entries.Nodup := held.2.2.1 ch sc pending

theorem setScan_evolves (s : State) (ch : Channel) (x : Option Scan)
    (fits : Gathering s → ∀ sc, x = some sc → sc.entries.Nodup) : Evolves [] s (s.setScan ch x) := by
  refine (Changes.of_eq rfl : Changes [.acq] s (s.setScan ch x)).acq_evolves rfl fun held o sc pending => ?_
  rw [State.setScan_acq] at pending
  dsimp only at pending
  rw [PerChannel.get_set] at pending
  split at pending
  · exact fits held sc pending
  · exact held.scan pending

theorem endScan_evolves (s : State) (ch : Channel) : Evolves [] s (s.setScan ch none) := setScan_evolves s ch none fun _ => nofun

/-- A scan that goes on keeps its entries. -/
theorem moveScan_evolves (s : State) {ch : Channel} {sc : Scan} (pending : s.acq.scans.get ch = some sc) (position : Nat) :
    Evolves [] s (s.setScan ch (some { sc with position := position })) :=
  setScan_evolves s ch _ fun held x hx => by
    obtain rfl : { sc with position := position } = x := Option.some.inj hx
    exact show sc.entries.Nodup from held.scan pending

theorem setConverter_evolves (s : State) (c : Option Conversion) : Evolves [] s (s.setConverter c) :=
  (Changes.of_eq rfl : Changes [.acq] s (s.setConverter c)).acq_evolves rfl fun held _ _ pending => held.scan pending

theorem dropScan_evolves (s : State) (ch : Channel) : Evolves [] s (s.dropScan ch) :=
  (endScan_evolves s ch).trans (setConverter_evolves _ _)

/-- The scan and the entry that a channel offers the arbiter. -/
theorem nextEntry_pending {s : State} {ch : Channel} {sc : Scan} {i : Input} (h : s.nextEntry ch = some (sc, i)) :
    s.acq.scans.get ch = some sc ∧ sc.entries[sc.position]? = some i := by
  unfold State.nextEntry at h
  split at h
  next x pending =>
    obtain ⟨j, at', same⟩ := Option.map_eq_some_iff.1 h
    cases same
    exact ⟨pending, at'⟩
  next => exact absurd h nofun

theorem beginConversion_evolves (s : State) {ch : Channel} {sc : Scan} {i : Input} (next : s.nextEntry ch = some (sc, i))
    (fromIdle : Bool) : Evolves [] s (s.beginConversion ch sc i fromIdle) :=
  (moveScan_evolves s (nextEntry_pending next).1 _).trans (setConverter_evolves _ _)

theorem arbitrate_evolves (s : State) (fromIdle : Bool) : Evolves [] s (s.arbitrate fromIdle) := by
  unfold State.arbitrate
  split
  · exact beginConversion_evolves s (by assumption) _
  · exact beginConversion_evolves s (by assumption) _
  · exact beginConversion_evolves s (by assumption) _
  · exact .refl _ s

theorem withdrawn_evolves (s : State) (c : Conversion) : Evolves [] s (s.withdrawn c) := by
  unfold State.withdrawn
  split
  next sc pending => exact (moveScan_evolves s pending _).trans (setConverter_evolves _ _)
  · exact setConverter_evolves s _

theorem arbitrateCreated_evolves (s : State) (wasIdle : Bool) : Evolves [] s (s.arbitrateCreated wasIdle) := by
  unfold State.arbitrateCreated
  split
  · exact arbitrate_evolves s _
  · split
    · exact (withdrawn_evolves s _).trans (arbitrate_evolves _ _)
    · exact .refl _ s

/-- A sample joins the slots in its place. -/
theorem fillSlot_rising (x : SlotSample) (slots : List SlotSample) (rising : slots.Pairwise fun p q => p.slot < q.slot) :
    (fillSlot x slots).Pairwise (fun p q => p.slot < q.slot) ∧ ∀ y ∈ fillSlot x slots, y = x ∨ y ∈ slots := by
  induction slots with
  | nil => exact ⟨List.pairwise_singleton .., fun y hy => .inl (by simpa [fillSlot] using hy)⟩
  | cons y rest ih =>
    obtain ⟨above, rising'⟩ := List.pairwise_cons.1 rising
    obtain ⟨ih, members⟩ := ih rising'
    unfold fillSlot
    split
    next before =>
      refine ⟨List.pairwise_cons.2 ⟨fun z hz => ?_, rising⟩, by simp⟩
      rcases List.mem_cons.1 hz with rfl | later
      · exact before
      · exact before.trans (above z later)
    · split
      next same =>
        refine ⟨List.pairwise_cons.2 ⟨fun z hz => same ▸ above z hz, rising'⟩, fun z hz => ?_⟩
        rcases List.mem_cons.1 hz with rfl | later
        · exact .inl rfl
        · exact .inr (List.mem_cons_of_mem y later)
      next notBefore notSame =>
        refine ⟨List.pairwise_cons.2 ⟨fun z hz => ?_, ih⟩, fun z hz => ?_⟩
        · rcases members z hz with rfl | later
          · omega
          · exact above z later
        · rcases List.mem_cons.1 hz with rfl | later
          · exact .inr (List.mem_cons_self ..)
          · exact (members z later).imp id (List.mem_cons_of_mem y)

theorem filled_rising {b : Option RevBuffer} (rising : RisingSlots b) (x : Sample) : RisingSlots (b.map fun r => r.filled x) := by
  intro r hr
  obtain ⟨old, held, rfl⟩ := Option.map_eq_some_iff.1 hr
  unfold RevBuffer.filled
  split
  · exact (fillSlot_rising _ _ (rising old held)).1
  · exact rising old held

theorem empty_rising (rev : RevId) : RisingSlots (some (RevBuffer.empty rev)) := fun b hb => by
  obtain rfl : RevBuffer.empty rev = b := Option.some.inj hb
  exact .nil

theorem none_rising : RisingSlots none := nofun

theorem deliver_evolves (s : State) (x : Sample) : Evolves [] s (s.deliver x) := by
  unfold State.deliver
  split
  · exact setBuffer_evolves s _ _ fun held => filled_rising (held.sav _).1 x
  · exact setGridBuffer_evolves s _ _ fun rising => filled_rising rising x
  · exact setGridBuffer_evolves s _ _ fun rising => filled_rising rising x

theorem overrun_evolves (s : State) (ch : Channel) : Evolves [] s (s.overrun ch) := by
  unfold State.overrun
  split
  · exact (dropScan_evolves s ch).trans (Evolves.foldl (fun t i => deliver_evolves t _) _ _)
  · exact .refl _ s

theorem takeStrobe_evolves (s : State) (ch : Channel) (slot : Nat) : Evolves [] s (s.takeStrobe ch slot) := by
  unfold State.takeStrobe
  split
  next i rest rev list _ =>
    refine ((overrun_evolves s ch).trans (setScan_evolves _ ch _ fun held sc created => ?_)).trans (arbitrateCreated_evolves _ _)
    obtain rfl := Option.some.inj created
    have table : (s.overrun ch).acq.table = s.acq.table := overrun_evolves s ch .table (by decide)
    have lists := held.2.1 ch
    rwa [State.scanList, table, ← State.scanList, list] at lists
  · exact .refl _ s

theorem retireScan_evolves (s : State) (ch : Channel) : Evolves [] s (s.retireScan ch) := by
  unfold State.retireScan
  split
  · split
    · exact endScan_evolves s ch
    · exact .refl _ s
  · exact .refl _ s

theorem completeConversion_evolves (s : State) (c : Conversion) (code : Code) : Evolves [] s (s.completeConversion c code) := by
  unfold State.completeConversion
  exact (((setConverter_evolves s none).trans (retireScan_evolves _ _)).trans (deliver_evolves _ _)).trans (arbitrate_evolves _ _)

/-! ### Channels -/

theorem setTrack_evolves (s : State) (ch : Channel) (t : Track) : Evolves [.trk, .regime, .gathering] s (s.setTrack ch t) :=
  (Changes.of_eq rfl : Changes [.trk] s (s.setTrack ch t)).evolves

/-- The law of the regime sees of the channels only whether TL follows pulses. -/
theorem setTrack_evolves_following (s : State) (ch : Channel) (t : Track) (h : t.lock.following = (s.track ch).lock.following) :
    Evolves [.trk, .gathering] s (s.setTrack ch t) := by
  have changes : Changes [.trk] s (s.setTrack ch t) := Changes.of_eq rfl
  have tl : (s.setTrack ch t).trk.tl.lock.following = s.trk.tl.lock.following := by
    cases ch with
    | tl => exact h
    | th | tg => rfl
  refine (changes.evolves (free := [.regime, .trk, .gathering])).fill ⟨tl, fun law => ?_⟩
  obtain ⟨parked, candidate, power, active⟩ := law
  exact ⟨tl ▸ parked, tl ▸ candidate, power, active⟩

theorem setTrack_evolves_lock (s : State) (ch : Channel) (t : Track) (h : t.lock = (s.track ch).lock) :
    Evolves [.trk, .gathering] s (s.setTrack ch t) :=
  setTrack_evolves_following s ch t (congrArg _ h)

theorem openRevolution_evolves (s : State) (ch : Channel) (edge : Tick) (samples : Nat) (virtual : Bool) :
    Evolves [.trk, .gathering] s (s.openRevolution ch edge samples virtual) :=
  setTrack_evolves_lock s ch _ rfl

theorem scheduleStrobes_evolves (s : State) (ch : Channel) (taking : Tick) : Evolves [.trk, .gathering] s (s.scheduleStrobes ch taking) := by
  unfold State.scheduleStrobes
  dsimp only
  split
  · exact setTrack_evolves_lock s ch _ rfl
  · exact .refl _ s

theorem startStrobes_evolves (s : State) (ch : Channel) (taking : Tick) : Evolves [.trk, .gathering] s (s.startStrobes ch taking) :=
  (scheduleStrobes_evolves s ch taking).trans ((takeStrobe_evolves _ ch _).mono)

theorem freshBuffers_evolves (s : State) (ch : Channel) : Evolves [] s (s.freshBuffers ch) := by
  unfold State.freshBuffers
  split
  · split
    · exact setCycleBuffers_evolves s (empty_rising _)
    · exact setBuffers_evolves s _ (empty_rising _)
  · exact .refl _ s

/-! ### Leaving lock -/

theorem dropGathered_evolves (s : State) (ch : Channel) : Evolves [] s (s.dropGathered ch) := by
  cases ch with
  | tl | th => exact setBuffers_evolves s _ none_rising
  | tg => exact (setCycleBuffers_evolves s none_rising).trans (discardBlock_evolves _)

theorem discardRevolution_evolves (s : State) (ch : Channel) : Evolves [.trk, .gathering] s (s.discardRevolution ch) := by
  have set := setTrack_evolves_lock s ch { s.track ch with rev := none, strobes := none } rfl
  unfold State.discardRevolution
  exact ((set.trans (dropScan_evolves _ ch).mono).trans (dropGathered_evolves _ ch).mono).trans (arbitrate_evolves _ _).mono

theorem lockLost_evolves (s : State) (ch : Channel) : Evolves [.regime] s (s.lockLost ch) := by
  cases ch with
  | tl => exact park_evolves s
  | th => exact .refl _ s
  | tg => exact (discardBlock_evolves s).mono

theorem lockGained_evolves (s : State) (ch : Channel) : Evolves [.regime] s (s.lockGained ch) := by
  cases ch with
  | tl => exact unpark_evolves s
  | th | tg => exact .refl _ s

theorem leaveLock_evolves (s : State) (ch : Channel) (target : LockState) : Evolves [.trk, .regime, .gathering] s (s.leaveLock ch target) := by
  unfold State.leaveLock
  exact ((discardRevolution_evolves s ch).mono.trans (setTrack_evolves _ ch _)).trans (lockLost_evolves _ ch).mono

/-! ### Settings -/

theorem withSettings_lock (t : Track) (new : TrackSettings) : (t.withSettings new).lock = t.lock := rfl

theorem applied_following (t : Track) (new : TrackSettings) : (t.applied new).lock.following = t.lock.following := by
  unfold Track.applied
  dsimp only
  split
  next lock => split <;> simp [withSettings_lock, lock, LockState.following]
  next lock =>
    split
    · split <;> simp [Track.restarted, withSettings_lock]
    · simp [Track.turnedOff, lock, LockState.following]
  next lock =>
    split
    · rfl
    · simp [Track.turnedOff, lock, LockState.following]
  all_goals rfl

theorem applyNow_evolves (s : State) (ch : Channel) (new : TrackSettings) : Evolves [.trk, .gathering] s (s.applyNow ch new) := by
  have set := setTrack_evolves_following s ch ((s.track ch).applied new) (applied_following _ new)
  unfold State.applyNow
  dsimp only
  split
  · exact set.trans (clearList_evolves _ ch).mono
  · exact set

theorem applyStagedNow_evolves (s : State) (ch : Channel) : Evolves [.trk, .gathering] s (s.applyStagedNow ch) := by
  unfold State.applyStagedNow
  split
  · exact applyNow_evolves s ch _
  · exact .refl _ s

theorem applyEffect_evolves (s : State) (ch : Channel) (old new : TrackSettings) :
    Evolves [.trk, .regime, .gathering] s (s.applyEffect ch old new) := by
  unfold State.applyEffect
  dsimp only
  split
  · exact (leaveLock_evolves s ch _).trans (setTrack_evolves _ ch _)
  · split
    · exact (leaveLock_evolves s ch _).trans (setTrack_evolves _ ch _)
    · exact .refl _ s

theorem applyStagedAtClose_evolves (s : State) (ch : Channel) : Evolves [.trk, .regime, .gathering] s (s.applyStagedAtClose ch) := by
  unfold State.applyStagedAtClose
  split
  next new _ =>
    have applied := (setTrack_evolves s ch ((s.track ch).withSettings new)).trans
      (applyEffect_evolves _ ch (s.track ch).settings new)
    dsimp only
    split
    · exact applied.trans (clearList_evolves _ ch).mono
    · exact applied
  · exact .refl _ s

/-! ### Revolutions and edges -/

theorem handRevolution_evolves (s : State) (ch : Channel) (rev : OpenRev) (revNumber : Nat) (edge : Tick) :
    Evolves [.gathering] s (s.handRevolution ch rev revNumber edge) := by
  cases ch with
  | tl | th => exact (closeShaft_evolves s _ rev revNumber).trans (accrue_evolves (onShaft_sparesCalendar _) _ 1).mono
  | tg => exact (closeCycle_evolves s rev edge).mono

/-- A channel whose revolution of some ticks is handed on (R16, R17). -/
def Track.handingOn (t : Track) (ticks : Nat) : Track :=
  { t with closedCount := wrap32 (t.closedCount + 1), lastTicks := some ticks }

theorem closeRevolution_eq (s : State) (ch : Channel) (rev : OpenRev) (edge : Tick) :
    s.closeRevolution ch rev edge =
      (s.setTrack ch ((s.track ch).handingOn rev.ticks)).handRevolution ch rev (wrap32 ((s.track ch).closedCount + 1)) edge := rfl

theorem closeRevolution_evolves (s : State) (ch : Channel) (rev : OpenRev) (edge : Tick) :
    Evolves [.trk, .gathering] s (s.closeRevolution ch rev edge) := by
  rw [closeRevolution_eq]
  exact (setTrack_evolves_lock s ch ((s.track ch).handingOn rev.ticks) rfl).trans (handRevolution_evolves _ ch rev _ edge).mono

theorem turnRevolution_evolves (s : State) (ch : Channel) (edge taking : Tick) (virtual : Bool) :
    Evolves [.trk, .regime, .gathering] s (s.turnRevolution ch edge taking virtual) := by
  unfold State.turnRevolution
  dsimp only
  split
  · exact ((((((openRevolution_evolves s ch _ _ _).trans (takeStrobe_evolves _ ch 0).mono).trans
      (closeRevolution_evolves _ ch _ edge)).trans (freshBuffers_evolves _ ch).mono).mono).trans
      (applyStagedAtClose_evolves _ ch)).trans (scheduleStrobes_evolves _ ch taking).mono
  · exact ((((openRevolution_evolves s ch _ _ _).trans (freshBuffers_evolves _ ch).mono).trans
      (takeStrobe_evolves _ ch 0).mono).trans (scheduleStrobes_evolves _ ch taking)).mono

/-- A channel that takes an edge: its index advances and the interval joins its open revolution (R8 to R10). -/
def Track.pulled (t : Track) (target : LockState) (edge taking : Tick) (tprev ticks : Nat) (unsteady virtual : Bool) : Track :=
  { t with
    lock := target
    p := (t.p + 1) % t.settings.z
    tprev := some tprev
    ref := some edge
    deadlineFrom := some taking
    strobes := none
    rev :=
      t.rev.map fun r =>
        { r with ticks := r.ticks + ticks, unsteady := r.unsteady || unsteady, virtual := r.virtual || virtual } }

theorem followEdge_eq (s : State) (ch : Channel) (target : LockState) (edge taking : Tick) (tprev ticks : Nat)
    (unsteady virtual : Bool) :
    s.followEdge ch target edge taking tprev ticks unsteady virtual =
      let t := s.setTrack ch ((s.track ch).pulled target edge taking tprev ticks unsteady virtual)
      if ((s.track ch).p + 1) % (s.track ch).settings.z = 0 then t.turnRevolution ch edge taking virtual
      else t.startStrobes ch taking := rfl

theorem followEdge_evolves (s : State) (ch : Channel) (target : LockState) (edge taking : Tick) (tprev ticks : Nat)
    (unsteady virtual : Bool) :
    Evolves [.trk, .regime, .gathering] s (s.followEdge ch target edge taking tprev ticks unsteady virtual) := by
  rw [followEdge_eq]
  refine (setTrack_evolves s ch ((s.track ch).pulled target edge taking tprev ticks unsteady virtual)).trans ?_
  dsimp only
  split
  · exact turnRevolution_evolves _ ch edge taking virtual
  · exact (startStrobes_evolves _ ch taking).mono

/-- A channel that locks at an edge taken at `taking`, before its revolution opens (R7). -/
def Track.lockedAt (t : Track) (taking : Tick) : Track :=
  { t with lock := .locked, p := 0, deadlineFrom := some taking, lastTicks := none }

/-- The records of a channel's list are cleared when it locks with Z above 1 (R7). -/
def State.clearedForLock (s : State) (ch : Channel) (z : Nat) : State := if z > 1 then s.clearList ch else s

theorem enterLocked_eq (s : State) (ch : Channel) (edge taking : Tick) :
    s.enterLocked ch edge taking =
      ((((((s.setTrack ch ((s.track ch).lockedAt taking)).clearedForLock ch (s.track ch).settings.z).lockGained ch).openRevolution
        ch edge (s.track ch).settings.n false).freshBuffers ch).startStrobes ch taking) := rfl

theorem clearedForLock_evolves (s : State) (ch : Channel) (z : Nat) : Evolves [] s (s.clearedForLock ch z) := by
  unfold State.clearedForLock
  split
  · exact clearList_evolves s ch
  · exact .refl _ s

theorem enterLocked_evolves (s : State) (ch : Channel) (edge taking : Tick) :
    Evolves [.trk, .regime, .gathering] s (s.enterLocked ch edge taking) := by
  rw [enterLocked_eq]
  exact (((((setTrack_evolves s ch ((s.track ch).lockedAt taking)).trans (clearedForLock_evolves _ ch _).mono).trans
    (lockGained_evolves _ ch).mono).trans (openRevolution_evolves _ ch edge _ false).mono).trans
    (freshBuffers_evolves _ ch).mono).trans (startStrobes_evolves _ ch taking).mono

/-- A channel in ACQUIRING after an edge that ends an interval `i` (R6). -/
def Track.measured (t : Track) (i : Nat) (edge : Tick) : Track := { t with c := t.countAfter i, tprev := some i, ref := some edge }

theorem acquireEdge_eq (s : State) (ch : Channel) (ref edge taking : Tick) :
    s.acquireEdge ch ref edge taking =
      let t := s.setTrack ch ((s.track ch).measured (intervalOf ref edge) edge)
      if (s.track ch).countAfter (intervalOf ref edge) ≥ 4 then t.enterLocked ch edge taking else t := rfl

theorem acquireEdge_evolves (s : State) (ch : Channel) (ref edge taking : Tick) :
    Evolves [.trk, .regime, .gathering] s (s.acquireEdge ch ref edge taking) := by
  rw [acquireEdge_eq]
  have measured := setTrack_evolves s ch ((s.track ch).measured (intervalOf ref edge) edge)
  dsimp only
  split
  · exact measured.trans (enterLocked_evolves _ ch edge taking)
  · exact measured

/-- A channel that has left lock at an edge outside its window (R8). -/
def Track.paceLost (t : Track) (edge : Tick) (i : Nat) : Track := { t with c := 0, ref := some edge, tprev := some i }

theorem losePace_eq (s : State) (ch : Channel) (edge : Tick) (i : Nat) :
    s.losePace ch edge i =
      let t := s.leaveLock ch .acquiring
      let u := t.setTrack ch ((t.track ch).paceLost edge i)
      (if ch = .tg then u.raise (gridRangeAlert (s.track ch).settings i) else u).applyStagedNow ch := rfl

theorem losePace_evolves (s : State) (ch : Channel) (edge : Tick) (i : Nat) :
    Evolves [.trk, .regime, .gathering] s (s.losePace ch edge i) := by
  rw [losePace_eq]
  have left := leaveLock_evolves s ch .acquiring
  generalize s.leaveLock ch .acquiring = t at left
  dsimp only
  refine ((left.trans (setTrack_evolves t ch ((t.track ch).paceLost edge i))).trans ?_).trans (applyStagedNow_evolves _ ch).mono
  split
  · exact (raise_evolves _ _).mono
  · exact .refl _ _

theorem lockedEdge_evolves (s : State) (ch : Channel) (ref edge taking : Tick) :
    Evolves [.trk, .regime, .gathering] s (s.lockedEdge ch ref edge taking) := by
  unfold State.lockedEdge
  dsimp only
  split
  · exact followEdge_evolves s ch _ _ _ _ _ _ _
  · exact losePace_evolves s ch edge _

theorem takeEdge_evolves (s : State) (ch : Channel) (edge taking : Tick) :
    Evolves [.trk, .regime, .gathering] s (s.takeEdge ch edge taking) := by
  unfold State.takeEdge
  dsimp only
  split
  · exact .refl _ s
  · exact acquireEdge_evolves s ch _ edge taking
  · exact setTrack_evolves s ch _
  · exact lockedEdge_evolves s ch _ edge taking
  · exact setTrack_evolves s ch _
  · exact followEdge_evolves s ch _ _ _ _ _ _ _
  · exact setTrack_evolves s ch _

theorem confirmEdge_evolves (s : State) (ch : Channel) (x : Transition) : Evolves [.trk, .regime, .gathering] s (s.confirmEdge ch x) :=
  (setTrack_evolves s ch _).trans (takeEdge_evolves _ ch _ _)

theorem virtualEdge_evolves (s : State) (ch : Channel) : Evolves [.trk, .regime, .gathering] s (s.virtualEdge ch) :=
  followEdge_evolves s ch _ _ _ _ _ _ _

/-- A channel that has left lock by a stall (R10, R11). -/
def Track.stalledNow (t : Track) : Track := { t with ref := none, stallCount := satAdd max16 t.stallCount 1 }

theorem stall_eq (s : State) (ch : Channel) :
    s.stall ch =
      let t := s.leaveLock ch .stalled
      ((t.setTrack ch (t.track ch).stalledNow).raise (trackLostAlert ch)).applyStagedNow ch := rfl

theorem stall_evolves (s : State) (ch : Channel) : Evolves [.trk, .regime, .gathering] s (s.stall ch) := by
  rw [stall_eq]
  have left := leaveLock_evolves s ch .stalled
  generalize s.leaveLock ch .stalled = t at left
  exact ((left.trans (setTrack_evolves t ch (t.track ch).stalledNow)).trans (raise_evolves _ _).mono).trans
    (applyStagedNow_evolves _ ch).mono

theorem fireStrobe_evolves (s : State) (ch : Channel) (r : StrobeRun) : Evolves [.trk, .gathering] s (s.fireStrobe ch r) :=
  (setTrack_evolves_lock s ch { s.track ch with strobes := some { r with next := r.next + 1 } } rfl).trans
    (takeStrobe_evolves _ ch _).mono

end Sys2Proof.Machine
end

section
set_option Elab.async false
/-! The footprints of icing, of the service mode and of the requests. -/

namespace Sys2Proof.Machine

/-! ### Icing -/

theorem Changes.icm_settings_evolves {s t : State} (h : Changes [.icm] s t) (settings : t.icm.settings = s.icm.settings)
    (curve : t.icm.curve = s.icm.curve) : Evolves [.icing] s t :=
  (h.evolves (free := [.icingSettings, .icing])).fill ⟨settings, curve⟩

theorem enterUntimed_evolves (s : State) (st : IcingState) : Evolves [.icing] s (s.enterUntimed st) :=
  (Changes.of_eq rfl : Changes [.icm] s (s.enterUntimed st)).icm_settings_evolves rfl rfl

theorem enterSuspect_evolves (s : State) : Evolves [.icing] s s.enterSuspect :=
  (Changes.of_eq rfl : Changes [.icm] s s.enterSuspect).icm_settings_evolves rfl rfl

theorem enterThaw_evolves (s : State) : Evolves [.icing] s s.enterThaw :=
  (Changes.of_eq rfl : Changes [.icm] s s.enterThaw).icm_settings_evolves rfl rfl

/-- What a new icing event does before it requests its write. -/
def State.icedEvent (s : State) : State :=
  let s := s.enterUntimed .iced
  let va := s.icm.settings.iceInput
  let wanted := (s.sav.get va).n > 0
  let snap := if wanted then s.sns.offer else .absent
  let s := if wanted then s.takeSnapshot (s.recordSnapshot va) else s
  (s.raise (iceStateAlert .alarm s.icm.knownTemperature (some s.icm.settings.tice) snap)).accrue (onBasis .ice) 1

theorem enterIcedEvent_eq (s : State) : s.enterIcedEvent = s.icedEvent.requestWrite := rfl

theorem icedEvent_evolves (s : State) : Evolves [.icing] s s.icedEvent := by
  unfold State.icedEvent
  dsimp only
  refine Evolves.trans (Evolves.trans (Evolves.trans (enterUntimed_evolves s .iced) ?_) (raise_evolves _ _).mono)
    (accrue_evolves (onBasis_sparesCalendar (b := .ice) nofun nofun) _ 1).mono
  split
  · exact (takeSnapshot_evolves _ _).mono
  · exact .refl _ _

/-- A state of no timer is entered and reported (R122, R125, R127). -/
def State.enterReported (s : State) (st : IcingState) (a : Alert) : State := (s.enterUntimed st).raise a

theorem enterReported_evolves (s : State) (st : IcingState) (a : Alert) : Evolves [.icing] s (s.enterReported st a) :=
  (enterUntimed_evolves s st).trans (raise_evolves _ a).mono

/-- The alert of a re-entry or of a thaw (R128). -/
def State.thawAlert (s : State) (v : Severity) : Alert :=
  iceStateAlert v s.icm.knownTemperature (some s.icm.settings.tice) .absent

theorem reenterIced_eq (s : State) : s.reenterIced = (s.enterReported .iced (s.thawAlert .warn)).requestWrite := rfl

theorem thawed_eq (s : State) : s.thawed = (s.enterReported .clear (s.thawAlert .note)).requestWrite := rfl

theorem released_eq_reported (s : State) :
    s.released = (s.enterReported .clear (iceStateAlert .note none none .absent)).requestWrite := rfl

/-- An operation followed by the request for a store write. -/
theorem Evolves.thenWrite {free : List Aspect} {s t : State} (h : Evolves free s t) : Evolves (.sst :: free) s t.requestWrite :=
  (h.mono (List.subset_cons_self ..)).trans ((requestWrite_evolves t).mono (by simp))

theorem enterIcedEvent_evolves (s : State) : Evolves [.sst, .icing] s s.enterIcedEvent := (icedEvent_evolves s).thenWrite

theorem reenterIced_evolves (s : State) : Evolves [.sst, .icing] s s.reenterIced := (enterReported_evolves s _ _).thenWrite

theorem thawed_evolves (s : State) : Evolves [.sst, .icing] s s.thawed := (enterReported_evolves s _ _).thenWrite

theorem released_evolves (s : State) : Evolves [.sst, .icing] s s.released := (enterReported_evolves s _ _).thenWrite

theorem setEvidence_evolves (s : State) (e1 e2 : Nat) (kind : Option RunKind) :
    Evolves [.icing] s { s with icm := { s.icm with e1 := e1, e2 := e2, runKind := kind } } :=
  (Changes.of_eq rfl : Changes [.icm] s _).icm_settings_evolves rfl rfl

theorem evaluateWatch_evolves (s : State) (cold deficit imbalance : Option Bool) :
    Evolves [.icing] s (s.evaluateWatch cold deficit imbalance) := by
  unfold State.evaluateWatch
  split
  · exact enterUntimed_evolves s _
  · split
    · split
      · exact enterSuspect_evolves s
      · exact setEvidence_evolves s _ _ _
    · exact setEvidence_evolves s _ _ _
  · exact .refl _ s

theorem evaluateSuspect_evolves (s : State) (deficit imbalance : Option Bool) :
    Evolves [.sst, .icing] s (s.evaluateSuspect deficit imbalance) := by
  unfold State.evaluateSuspect
  split
  · split
    · exact enterIcedEvent_evolves s
    · exact (setEvidence_evolves s _ _ _).mono
  · split
    · exact (enterUntimed_evolves s _).mono
    · exact (setEvidence_evolves s _ _ _).mono
  · exact (setEvidence_evolves s _ _ _).mono

theorem evaluateIced_evolves (s : State) : Evolves [.icing] s s.evaluateIced := by
  unfold State.evaluateIced
  split
  · split
    · exact enterThaw_evolves s
    · exact .refl _ s
  · exact .refl _ s

theorem evaluateThaw_evolves (s : State) : Evolves [.sst, .icing] s s.evaluateThaw := by
  unfold State.evaluateThaw
  split
  · split
    · exact reenterIced_evolves s
    · split
      · exact thawed_evolves s
      · exact .refl _ s
  · exact .refl _ s

theorem moveIcing_evolves (s : State) (cold deficit imbalance : Option Bool) :
    Evolves [.sst, .icing] s (s.moveIcing cold deficit imbalance) := by
  unfold State.moveIcing
  split
  · split
    · exact (enterUntimed_evolves s _).mono
    · exact .refl _ s
  · exact (evaluateWatch_evolves s _ _ _).mono
  · exact evaluateSuspect_evolves s _ _
  · exact (evaluateIced_evolves s).mono
  · exact evaluateThaw_evolves s

theorem learnBaseline_evolves (s : State) (may : Bool) (o1 : Option Nat) : Evolves [.icing] s (s.learnBaseline may o1) := by
  unfold State.learnBaseline
  split
  · exact (Changes.of_eq rfl : Changes [.icm] s _).icm_settings_evolves rfl rfl
  · exact .refl _ s

theorem emptyGatherings_evolves (s : State) (due : Tick) : Evolves [.icing] s (s.emptyGatherings due) :=
  (Changes.of_eq rfl : Changes [.icm] s _).icm_settings_evolves rfl rfl

theorem recordEvaluation_evolves (s : State) (r : EvalRecord) : Evolves [.icing] s (s.recordEvaluation r) :=
  (Changes.of_eq rfl : Changes [.icm] s _).icm_settings_evolves rfl rfl

theorem evaluateIcing_evolves (s : State) (due : Tick) : Evolves [.sst, .icing] s (s.evaluateIcing due) := by
  unfold State.evaluateIcing
  dsimp only
  exact (((emptyGatherings_evolves s due).mono.trans (moveIcing_evolves _ _ _ _)).trans (learnBaseline_evolves _ _ _).mono).trans
    (recordEvaluation_evolves _ _).mono

theorem confirmExpired_evolves (s : State) : Evolves [.sst, .icing] s s.confirmExpired := by
  unfold State.confirmExpired
  split
  · exact (enterUntimed_evolves s _).mono
  · exact enterIcedEvent_evolves s

theorem thawElapsed_evolves (s : State) : Evolves [.icing] s { s with icm := { s.icm with tThaw := .elapsed } } :=
  (Changes.of_eq rfl : Changes [.icm] s _).icm_settings_evolves rfl rfl

theorem thawExpired_evolves (s : State) : Evolves [.sst, .icing] s s.thawExpired := by
  unfold State.thawExpired
  split
  · split
    · exact thawed_evolves s
    · exact (thawElapsed_evolves s).mono
  · exact (thawElapsed_evolves s).mono

theorem ambientExpired_evolves (s : State) (a : Ambient) : Evolves [.icing] s (s.ambientExpired a) := by
  have stale : Evolves [.icing] s { s with icm := { s.icm with ambient := some { a with fresh := false } } } :=
    (Changes.of_eq rfl : Changes [.icm] s _).icm_settings_evolves rfl rfl
  exact stale.trans (raise_evolves _ _).mono

/-! ### The service mode and the clock -/

theorem setSkd_evolves (s : State) (k : Skd) : Evolves [.skd] s { s with skd := k } :=
  (Changes.of_eq rfl : Changes [.skd] s _).evolves

theorem setMode_evolves (s : State) (mode : ServiceMode) (count : Nat) : Evolves [.skd] s (s.setMode mode count) := by
  unfold State.setMode
  dsimp only
  have moved := setSkd_evolves s { s.skd with mode := mode }
  split
  · exact moved
  · split
    · exact (moved.trans (clearAllTsa_evolves _).mono).trans (raise_evolves _ _).mono
    · exact moved.trans (raise_evolves _ _).mono

theorem endTrain_evolves (s : State) (count : Nat) : Evolves [.skd] s (s.endTrain count) := by
  rw [endTrain_eq]
  exact (setSkd_evolves s _).trans (setMode_evolves _ _ _)

theorem expireHold_evolves (s : State) : Evolves [.skd] s s.expireHold := (setSkd_evolves s _).trans (setMode_evolves _ _ _)

/-- A change of items and alerts, whatever becomes of the items. -/
theorem recompute_evolves_items (s : State) (slot : Fin 16) (it : Item) : Evolves [.items] s (s.recompute slot it) :=
  (Changes.of_eq rfl : Changes [.msc] s (s.setItem slot { it with state := it.computedState })).evolves.trans
    (raiseAll_evolves _ _).mono

theorem recountCalendar_evolves (farm : Nat) (s : State) (slot : Fin 16) : Evolves [.items] s (s.recountCalendar farm slot) := by
  unfold State.recountCalendar
  dsimp only
  split
  · exact recompute_evolves_items s slot _
  · exact .refl _ s

theorem recountCalendars_evolves (s : State) : Evolves [.items] s s.recountCalendars := by
  unfold State.recountCalendars
  split
  · exact .refl _ s
  · exact Evolves.foldl (recountCalendar_evolves _) allSlots s

theorem secondForItems_evolves (s : State) : Evolves [.items] s s.secondForItems := by
  unfold State.secondForItems
  refine Evolves.trans ?_ (recountCalendars_evolves _)
  split
  · exact (accrue_evolves (onBasis_sparesCalendar (b := .operating) nofun nofun) s 1).mono
  · exact .refl _ s

theorem countAutosave_evolves (s : State) : Evolves [.sst] s s.countAutosave := by
  have counted (n : Nat) : Evolves [.sst] s { s with sst := { s.sst with autosave := n } } :=
    (Changes.of_eq rfl : Changes [.sst] s _).evolves
  unfold State.countAutosave
  split
  · exact counted _
  · exact (counted 0).trans (requestWrite_evolves _)

theorem deviceSecond_evolves (s : State) : Evolves [.clk, .items, .sst] s s.deviceSecond := by
  have clocks : Evolves [.clk] s { s with clk := s.clk.advanced } := (Changes.of_eq rfl : Changes [.clk] s _).evolves
  exact (clocks.mono.trans (secondForItems_evolves _).mono).trans (countAutosave_evolves _).mono

/-! ### Requests -/

/-- The aspects that serving a request may break. -/
def freeIn : Request → List Aspect
  | .time _ => [.clk, .items]
  | .setTrack _ => [.trk, .gathering]
  | .setScan _ => [.trk, .table, .inputs, .gathering]
  | .setInput _ => [.inputs]
  | .setGrid _ => [.gridSettings]
  | .setRegime _ | .setProfile _ => [.regimeSettings, .indicators]
  | .ambient _ => [.icing]
  | .setIce _ | .setCurve _ => [.icing, .icingSettings]
  | .iceRelease => [.sst, .icing]
  | .setItem _ | .serviceDone _ => [.items]
  | .fetch => [.alerts]
  | .snapPop _ => [.snapshots]
  | .hello | .status | .readTrack _ | .clearAverage _ _ | .readTsa _ _ _ | .readIndicators _ | .readGrid _ | .readRegime _
  | .readIce | .readItems _ _ | .snapRead _ _ | .save | .reset | .malformed _ => []

/-- Farm time takes a value, and CALENDAR items without a start begin from it (R137, R174). -/
def State.farmGiven (s : State) (farm : Nat) : State :=
  { s with clk := { s.clk with farm := some farm }, msc := s.msc.map (Item.withStart farm) }

theorem setFarm_eq (s : State) (farm : Nat) : s.setFarm farm = (s.farmGiven farm).recountCalendars := rfl

theorem setFarm_evolves (s : State) (farm : Nat) : Evolves [.clk, .items] s (s.setFarm farm) := by
  have given : Evolves [.clk, .items] s (s.farmGiven farm) :=
    (Changes.of_eq rfl : Changes [.clk, .msc] s (s.farmGiven farm)).evolves
  rw [setFarm_eq]
  exact given.trans (recountCalendars_evolves _).mono

theorem serveTime_eq (farm : Nat) (s : State) :
    (serveTime farm s).1 = if farm ≤ max32 then s.setFarm farm else s := by
  rw [serveTime, apply_ite Prod.fst]

theorem serveTime_evolves (farm : Nat) (s : State) : Evolves [.clk, .items] s (serveTime farm s).1 := by
  rw [serveTime_eq]
  split
  · exact setFarm_evolves s farm
  · exact .refl _ s

theorem serveSetTrack_evolves (f : TrackFields) (s : State) : Evolves [.trk, .gathering] s (serveSetTrack f s).1 := by
  unfold serveSetTrack
  split
  · exact .refl _ s
  next ch _ =>
    split
    · split
      · exact setTrack_evolves_lock s ch { s.track ch with staged := some (trackSettingsOf f) } rfl
      · exact applyNow_evolves s ch _
    · exact .refl _ s

theorem discardIfOpen_evolves (s : State) (ch : Channel) : Evolves [.trk, .gathering] s (s.discardIfOpen ch) := by
  unfold State.discardIfOpen
  split
  · exact discardRevolution_evolves s ch
  · exact .refl _ s

theorem moveInput_evolves (s : State) (va : Fin 6) : Evolves [.inputs] s (s.moveInput va) := by
  unfold State.moveInput
  dsimp only
  split
  · exact .refl _ s
  · have owned : Evolves [.inputs] s (s.setSav va { s.sav.get va with owner := s.acq.table.owner (.va va) }) :=
      ((Changes.of_eq rfl : Changes [.sav] s _).evolves (free := [.gathering, .inputs])).fill
        (setSav_gathering s va _ fun held => held.sav va)
    exact owned.trans (clearTsa_evolves _ va).mono

/-- A channel's revolution and its scan are gone (R28). -/
def State.stripped (s : State) : State :=
  (((((s.discardIfOpen .tl).discardIfOpen .th).discardIfOpen .tg).dropScan .tl).dropScan .th).dropScan .tg

theorem stripped_evolves (s : State) : Evolves [.trk, .gathering] s s.stripped :=
  (((((discardIfOpen_evolves s .tl).trans (discardIfOpen_evolves _ .th)).trans (discardIfOpen_evolves _ .tg)).trans
    (dropScan_evolves _ .tl).mono).trans (dropScan_evolves _ .th).mono).trans (dropScan_evolves _ .tg).mono

/-- The state after an accepted SET_SCAN but for the grid inputs that join or leave (R28). -/
def State.rewired (s : State) (t : ScanTable) : State :=
  allVa.foldl State.moveInput { s.stripped with acq := { s.stripped.acq with table := t } }

theorem rewired_evolves (s : State) (t : ScanTable) : Evolves [.trk, .table, .inputs, .gathering] s (s.rewired t) := by
  have table : Evolves [.trk, .table, .inputs, .gathering] s.stripped { s.stripped with acq := { s.stripped.acq with table := t } } :=
    (Changes.of_eq rfl : Changes [.acq] s.stripped _).evolves
  exact ((stripped_evolves s).mono.trans table).trans (Evolves.foldl moveInput_evolves allVa _).mono

theorem replaceTable_eq (s : State) (t : ScanTable) :
    s.replaceTable t = { s.rewired t with gra := (s.rewired t).gra.rescanned s.present (s.rewired t).present } := rfl

theorem rescanned_evolves (s : State) (before after : List (Fin 6)) :
    Evolves [] s { s with gra := s.gra.rescanned before after } := by
  refine (Changes.of_eq rfl : Changes [.gra] s _).gra_evolves rfl rfl (fun lawful => ?_) fun rising g => ?_
  · obtain ⟨remainder, energy, block, inputs⟩ := (gridLaw_iff s).1 lawful
    refine (gridLaw_iff _).2 ⟨remainder, energy, block, fun g => ?_⟩
    simp only [Gra.rescanned, Tab.get_ofFn]
    split
    · exact inputs g
    · simp [GridInput.Lawful, GridInput.afterStartUp, LimitState.normal]
  · simp only [Gra.rescanned, Tab.get_ofFn]
    split
    · exact rising g
    · exact none_rising

theorem replaceTable_evolves (s : State) (t : ScanTable) : Evolves [.trk, .table, .inputs, .gathering] s (s.replaceTable t) := by
  rw [replaceTable_eq]
  exact (rewired_evolves s t).trans (rescanned_evolves _ _ _).mono

theorem serveSetScan_evolves (f : ScanFields) (s : State) : Evolves [.trk, .table, .inputs, .gathering] s (serveSetScan f s).1 := by
  unfold serveSetScan
  split
  · exact .refl _ s
  next t _ =>
    split
    · split
      · exact replaceTable_evolves s t
      · exact .refl _ s
    · exact .refl _ s

theorem normal_counters {p : Nat} (positive : 1 ≤ p) :
    LevelState.normal.rise < p ∧ LevelState.normal.fall < p ∧ LevelState.normal.rise ≤ 14 ∧ LevelState.normal.fall ≤ 14 :=
  ⟨positive, positive, Nat.zero_le _, Nat.zero_le _⟩

theorem reordered_lawful {v : Ind} {p : Nat} (lawful : v.Lawful p) (positive : 1 ≤ p) (old new : Tab 4 Nat) :
    (v.reordered old new).Lawful p := by
  obtain ⟨levels, waits, dropped⟩ := lawful
  refine ⟨fun j => ?_, waits, dropped⟩
  simp only [Ind.reordered, Tab.get_ofFn]
  split
  · exact levels j
  · exact normal_counters positive

theorem relaxed_lawful {v : Ind} {p : Nat} (lawful : v.Lawful p) (positive : 1 ≤ p) : v.relaxed.Lawful p := by
  obtain ⟨-, waits, dropped⟩ := lawful
  refine ⟨fun j => ?_, waits, dropped⟩
  simp only [Ind.relaxed, Tab.get_replicate]
  exact normal_counters positive

theorem serveSetInput_evolves (f : InputFields) (s : State) : Evolves [.inputs] s (serveSetInput f s).1 := by
  unfold serveSetInput
  split
  next va _ =>
    split
    · have settings : Evolves [.inputs] s (s.setSav va { s.sav.get va with settings := ⟨f.k, f.orders⟩ }) :=
        ((Changes.of_eq rfl : Changes [.sav] s _).evolves (free := [.gathering, .inputs])).fill
          (setSav_gathering s va _ fun held => held.sav va)
      refine settings.trans (setInd_evolves _ va _ fun row _ inRange lawful => ?_).mono
      exact reordered_lawful lawful inRange.1 _ _
    · exact .refl _ s
  · exact .refl _ s

theorem clearAverage_evolves (resetLevels : Bool) (s : State) (va : Fin 6) : Evolves [] s (s.clearAverage resetLevels va) := by
  unfold State.clearAverage
  dsimp only
  split
  · exact (clearTsa_evolves s va).trans (setInd_evolves _ va _ fun row _ inRange lawful => relaxed_lawful lawful inRange.1)
  · exact clearTsa_evolves s va

theorem serveClearAverage_evolves (raw : Nat) (resetLevels : Bool) (s : State) :
    Evolves [] s (serveClearAverage raw resetLevels s).1 := by
  unfold serveClearAverage
  split
  · exact Evolves.foldl (clearAverage_evolves resetLevels) allVa s
  · split
    · exact clearAverage_evolves resetLevels s _
    · exact .refl _ s

theorem serveSetGrid_evolves (f : GridFields) (s : State) : Evolves [.gridSettings] s (serveSetGrid f s).1 := by
  unfold serveSetGrid
  split
  · have changes : Changes [.gra] s
        { s with gra := { s.gra with settings := ⟨f.limits, f.voltageThd, f.currentThd, f.kp⟩ } } := Changes.of_eq rfl
    exact (((changes.evolves (free := [.regime, .grid, .gathering, .gridSettings])).fill ⟨rfl, fun law => law⟩).fill
      fun law => law).fill fun held => held
  · exact .refl _ s

/-- The state after an accepted SET_REGIME (R84). -/
def State.regimeSet (s : State) (f : RegimeFields) : State :=
  ({ s with
      rgc :=
        { s.rgc with
          candidate := if f.breakpoints = s.rgc.settings.breakpoints then s.rgc.candidate else none
          settings := { s.rgc.settings with breakpoints := f.breakpoints, map := f.map.map mapEntry } } }).refreshActive

theorem serveSetRegime_eq (f : RegimeFields) (s : State) :
    serveSetRegime f s = if regimeFieldsValid f then (s.regimeSet f, .bare .ok) else (s, .bare .badValue) := rfl

theorem serveSetRegime_evolves (f : RegimeFields) (s : State) :
    Evolves [.regimeSettings, .indicators] s (serveSetRegime f s).1 := by
  rw [serveSetRegime_eq]
  split
  · have changes : Changes [.rgc, .ind] s (s.regimeSet f) := Changes.of_eq rfl
    refine (changes.evolves (free := [.regime, .regimeSettings, .indicators])).fill ⟨rfl, fun law => ?_⟩
    obtain ⟨parked, candidate, power, -⟩ := law
    have dropped (h : s.rgc.candidate = none) :
        (if f.breakpoints = s.rgc.settings.breakpoints then s.rgc.candidate else none) = none := by simp [h]
    exact ⟨parked, dropped ∘ candidate, dropped ∘ power, rfl⟩
  · exact .refl _ s

theorem serveSetProfile_evolves (f : ProfileFields) (s : State) :
    Evolves [.regimeSettings, .indicators] s (serveSetProfile f s).1 := by
  unfold serveSetProfile
  split
  next profile va _ _ =>
    split
    · have changes : Changes [.rgc, .ind] s (s.writeRow profile va ⟨f.levels, f.persistence⟩) := Changes.of_eq rfl
      exact (changes.evolves (free := [.regime, .regimeSettings, .indicators])).fill ⟨rfl, fun law => law⟩
    · exact .refl _ s
  next => exact .refl _ s

theorem serveAmbient_evolves (f : AmbientFields) (s : State) : Evolves [.icing] s (serveAmbient f s).1 :=
  (Changes.of_eq rfl : Changes [.icm] s (serveAmbient f s).1).icm_settings_evolves rfl rfl

theorem serveSetIce_evolves (f : IceFields) (s : State) : Evolves [.icing, .icingSettings] s (serveSetIce f s).1 := by
  unfold serveSetIce
  split
  · split
    · exact (Changes.of_eq rfl : Changes [.icm] s _).evolves
    · exact .refl _ s
  · exact .refl _ s

theorem serveSetCurve_evolves (points : List CurvePoint) (s : State) :
    Evolves [.icing, .icingSettings] s (serveSetCurve points s).1 := by
  unfold serveSetCurve
  split
  · exact (Changes.of_eq rfl : Changes [.icm] s _).evolves
  · exact .refl _ s

theorem serveIceRelease_evolves (s : State) : Evolves [.sst, .icing] s (serveIceRelease s).1 := by
  unfold serveIceRelease
  split
  · split
    · exact released_evolves s
    · exact .refl _ s
  · exact .refl _ s

theorem serveSetItem_evolves (f : ItemFields) (s : State) : Evolves [.items] s (serveSetItem f s).1 := by
  unfold serveSetItem
  split
  · exact (Changes.of_eq rfl : Changes [.msc] s _).evolves
  · split
    · split
      · exact recompute_evolves_items s _ _
      · exact .refl _ s
    · exact .refl _ s
  · exact .refl _ s

theorem serveServiceDone_evolves (raw : Nat) (s : State) : Evolves [.items] s (serveServiceDone raw s).1 := by
  unfold serveServiceDone
  split
  · exact .refl _ s
  next slot _ =>
    dsimp only
    split
    · exact .refl _ s
    · split
      · exact .refl _ s
      · split
        · exact .refl _ s
        · have written : Evolves [.items] s (s.setItem slot ((s.msc.get slot).serviced s.clk.farm)) :=
            (Changes.of_eq rfl : Changes [.msc] s _).evolves
          exact written.trans (raise_evolves _ _).mono

theorem serveSnapPop_evolves (number : Nat) (s : State) : Evolves [.snapshots] s (serveSnapPop number s).1 := by
  unfold serveSnapPop
  split
  · exact .refl _ s
  · split
    · exact .refl _ s
    · exact (Changes.of_eq rfl : Changes [.sns] s _).evolves

theorem serveFetch_evolves (s : State) : Evolves [.alerts] s (serveFetch s).1 :=
  (Changes.of_eq rfl : Changes [.alt] s (serveFetch s).1).evolves

/-- A request that only reads answers from the state and leaves it. -/
theorem answer_reads (s : State) :
    (∀ ch, (serveReadTrack ch s).1 = s) ∧ (∀ raw start count, (serveReadTsa raw start count s).1 = s)
      ∧ (∀ raw, (serveReadIndicators raw s).1 = s) ∧ (∀ raw, (serveReadGrid raw s).1 = s)
      ∧ (∀ sel, (serveReadRegime sel s).1 = s) ∧ (∀ first count, (serveReadItems first count s).1 = s)
      ∧ ∀ offset count, (serveSnapRead offset count s).1 = s := by
  refine ⟨fun ch => ?_, fun raw start count => ?_, fun raw => ?_, fun raw => ?_, fun sel => ?_, fun first count => ?_,
    fun offset count => ?_⟩
  · unfold serveReadTrack
    split <;> rfl
  · unfold serveReadTsa
    split
    · rfl
    · dsimp only
      repeat' split
      all_goals rfl
  · unfold serveReadIndicators
    split
    · rfl
    · dsimp only
      split <;> rfl
  · unfold serveReadGrid
    split
    · rfl
    · split <;> rfl
  · unfold serveReadRegime
    split
    · rfl
    · split <;> rfl
  · unfold serveReadItems
    split <;> rfl
  · unfold serveSnapRead
    split
    · rfl
    · split
      · rfl
      · split <;> rfl

/-- The footprint of serving a request. -/
theorem answer_evolves (s : State) (r : Request) : Evolves (freeIn r) s (s.answer r).1 := by
  obtain ⟨readTrack, readTsa, readIndicators, readGrid, readRegime, readItems, snapRead⟩ := answer_reads s
  cases r with
  | hello | status | readIce | save | reset | malformed _ => exact .refl _ s
  | time farm => exact serveTime_evolves farm s
  | setTrack f => exact serveSetTrack_evolves f s
  | readTrack ch => exact (readTrack ch).symm ▸ .refl _ s
  | setScan f => exact serveSetScan_evolves f s
  | setInput f => exact serveSetInput_evolves f s
  | clearAverage raw resetLevels => exact serveClearAverage_evolves raw resetLevels s
  | readTsa raw start count => exact (readTsa raw start count).symm ▸ .refl _ s
  | readIndicators raw => exact (readIndicators raw).symm ▸ .refl _ s
  | setGrid f => exact serveSetGrid_evolves f s
  | readGrid raw => exact (readGrid raw).symm ▸ .refl _ s
  | setRegime f => exact serveSetRegime_evolves f s
  | setProfile f => exact serveSetProfile_evolves f s
  | readRegime sel => exact (readRegime sel).symm ▸ .refl _ s
  | ambient f => exact serveAmbient_evolves f s
  | setIce f => exact serveSetIce_evolves f s
  | setCurve points => exact serveSetCurve_evolves points s
  | iceRelease => exact serveIceRelease_evolves s
  | setItem f => exact serveSetItem_evolves f s
  | serviceDone raw => exact serveServiceDone_evolves raw s
  | readItems first count => exact (readItems first count).symm ▸ .refl _ s
  | fetch => exact serveFetch_evolves s
  | snapRead offset count => exact (snapRead offset count).symm ▸ .refl _ s
  | snapPop number => exact serveSnapPop_evolves number s

end Sys2Proof.Machine
end

section
set_option Elab.async false
/-! What a command does, said once. The link and the store change no other block; a request does what its owner's rule does between two
changes of those; and every other command is one operation of its block at its instant, or nothing but the passing of time. -/

namespace Sys2Proof.Machine

/-! ### The link and the store -/

/-- Only the link, the store, the clock's present tick and the alert list may differ, and what the store holds comes from before or
from the present contents. -/
def StoreStep (s t : State) : Prop :=
  Evolves [.lnk, .sst] s t ∧ t.contents = s.contents
    ∧ ∀ P : Image → Prop, P s.contents → s.sst.Holds P → t.sst.Holds P

theorem StoreStep.refl (s : State) : StoreStep s s := ⟨.refl _ s, rfl, fun _ _ => id⟩

theorem StoreStep.trans {s t u : State} (h : StoreStep s t) (k : StoreStep t u) : StoreStep s u := by
  obtain ⟨evolves, contents, holds⟩ := h
  obtain ⟨evolves', contents', holds'⟩ := k
  exact ⟨evolves.trans evolves', contents'.trans contents, fun P now held => holds' P (contents ▸ now) (holds P now held)⟩

/-- A change of blocks that the contents do not read. -/
theorem Changes.storeStep {s t : State} (h : Changes [.now, .lnk] s t) (contents : t.contents = s.contents) : StoreStep s t := by
  have sst : t.sst = s.sst := h .sst (by decide)
  exact ⟨h.evolves, contents, fun P _ held => sst ▸ held⟩

theorem advance_storeStep (s : State) (tick : Tick) : StoreStep s (s.advance tick) :=
  (Changes.of_eq rfl : Changes [.now, .lnk] s (s.advance tick)).storeStep rfl

theorem link_storeStep (s : State) (l : Lnk) : StoreStep s { s with lnk := l } :=
  (Changes.of_eq rfl : Changes [.now, .lnk] s _).storeStep rfl

theorem raise_storeStep (s : State) (a : Alert) : StoreStep s (s.raise a) :=
  ⟨(raise_evolves s a).mono, rfl, fun _ _ held => held⟩

theorem requested_holds {t : Sst} {P : Image → Prop} {copy : Image} (now : P copy) (held : t.Holds P) (tick : Tick) :
    (t.requested copy tick).Holds P := by
  obtain ⟨image, inFlight⟩ := held
  unfold Sst.requested
  split
  · exact ⟨image, fun w hw => by obtain rfl : (⟨copy, tick⟩ : StoreWrite) = w := by simpa using hw
                                 exact now⟩
  · exact ⟨image, inFlight⟩

theorem requestWrite_storeStep (s : State) : StoreStep s s.requestWrite :=
  ⟨(requestWrite_evolves s).mono, rfl, fun _ now held => requested_holds now held _⟩

theorem completed_holds {t : Sst} {P : Image → Prop} {w : StoreWrite} (flying : t.inFlight = some w) {copy : Image} (now : P copy)
    (held : t.Holds P) (success : Bool) (tick : Tick) : (t.completed w success copy tick).Holds P := by
  obtain ⟨image, inFlight⟩ := held
  constructor
  · intro x hx
    simp only [Sst.completed] at hx
    split at hx
    · obtain rfl : w.copy = x := by simpa using hx
      exact inFlight w flying
    · exact image x hx
  · intro x hx
    simp only [Sst.completed] at hx
    split at hx
    · obtain rfl : (⟨copy, tick⟩ : StoreWrite) = x := by simpa using hx
      exact now
    · exact absurd hx nofun

theorem completed_storeStep (s : State) {w : StoreWrite} (flying : s.sst.inFlight = some w) (success : Bool) :
    StoreStep s { s with sst := s.sst.completed w success s.contents s.now } :=
  ⟨(Changes.of_eq rfl : Changes [.sst] s _).evolves, rfl, fun _ now held => completed_holds flying now held success _⟩

/-! ### Requests -/

/-- From `s` to `t` a request is served: what its owner's rule does, between steps of the link and the store. -/
def Serves (r : Request) (s t : State) : Prop := ∃ u, StoreStep s u ∧ StoreStep (u.answer r).1 t

theorem Serves.after {r : Request} {s t u : State} (h : StoreStep s t) (k : Serves r t u) : Serves r s u := by
  obtain ⟨v, before, after⟩ := k
  exact ⟨v, h.trans before, after⟩

theorem Serves.before {r : Request} {s t u : State} (h : Serves r s t) (k : StoreStep t u) : Serves r s u := by
  obtain ⟨v, before, after⟩ := h
  exact ⟨v, before, after.trans k⟩

theorem serveSave_storeStep (s : State) : StoreStep s s.serveSave := (requestWrite_storeStep s).trans (link_storeStep _ _)

theorem serve_serves (s : State) (r : Request) : Serves r s (s.serve r) := by
  by_cases save : r = .save
  · subst save
    exact ⟨s, .refl s, serveSave_storeStep s⟩
  · by_cases reset : r = .reset
    · subst reset
      exact ⟨s, .refl s, link_storeStep s _⟩
    · rw [serve_answer s r save reset]
      exact ⟨s, .refl s, link_storeStep _ _⟩

theorem dispatch_serves (s : State) (r : Request) : StoreStep s (s.dispatch r) ∨ Serves r s (s.dispatch r) := by
  unfold State.dispatch
  split
  · exact .inr (Serves.after (link_storeStep s _) (serve_serves _ r))
  · exact .inl (link_storeStep s _)
  · exact .inl (link_storeStep s _)

theorem submit_serves (s : State) (r : Request) : StoreStep s (s.submit r) ∨ Serves r s (s.submit r) := by
  unfold State.submit
  split
  · exact .inl (.refl s)
  · exact (dispatch_serves s r).imp (fun h => h.trans (link_storeStep _ _)) fun h => h.before (link_storeStep _ _)

theorem judgeFrame_serves (s : State) (body sum : List Byte) :
    StoreStep s (s.judgeFrame body sum)
      ∨ ∃ r, requestOf (natAt body 1 1) (body.drop 2) = some r ∧ Serves r s (s.judgeFrame body sum) := by
  unfold State.judgeFrame
  dsimp only
  split
  · exact .inl (.refl s)
  · split
    · exact .inl (link_storeStep s _)
    · split
      next r _ named =>
        split
        · exact (submit_serves s r).imp id fun h => ⟨r, named, h⟩
        · exact .inl (link_storeStep s _)
      · exact .inl (link_storeStep s _)

/-- The type of a frame stands in the bytes that the CRC covers. -/
theorem natAt_type_take (frame : List Byte) (n : Nat) : natAt (frame.take (n + 2)) 1 1 = natAt frame 1 1 := by
  unfold natAt
  rw [List.drop_take, List.take_take]
  congr 2

theorem takeByte_serves (s : State) (b : Byte) (tick : Tick) :
    StoreStep s (s.takeByte b) ∨ ∃ r, s.requestIn (.serialByte (.byte b) tick) = some r ∧ Serves r s (s.takeByte b) := by
  unfold State.takeByte
  split
  · split
    · exact .inl (link_storeStep s _)
    · exact .inl (.refl s)
  · split
    · exact .inl (link_storeStep s _)
    · exact .inl (link_storeStep s _)
  next l rest last held =>
    dsimp only
    split
    next complete =>
      rcases judgeFrame_serves (s.setReceiver .hunting) ((l :: rest ++ [b]).take (l.toNat + 2))
        ((l :: rest ++ [b]).drop (l.toNat + 2)) with quiet | ⟨r, named, served⟩
      · exact .inl ((link_storeStep s _).trans quiet)
      · rw [natAt_type_take] at named
        refine .inr ⟨r, ?_, served.after (link_storeStep s _)⟩
        simp only [State.requestIn, held]
        rw [if_pos complete, named]
    · exact .inl (link_storeStep s _)

theorem receive_serves (s : State) (a : Arrival) (tick : Tick) :
    StoreStep s (s.receive a) ∨ ∃ r, s.requestIn (.serialByte a tick) = some r ∧ Serves r s (s.receive a) := by
  unfold State.receive
  split
  · exact .inl (.refl s)
  · split
    · exact takeByte_serves s _ tick
    · exact .inl (link_storeStep s _)

theorem serveWaiting_serves (s : State) :
    StoreStep s s.serveWaiting ∨ ∃ r, s.lnk.waiting = some r ∧ Serves r s s.serveWaiting := by
  unfold State.serveWaiting
  split
  next r waiting => exact .inr ⟨r, waiting, (serve_serves _ r).after (link_storeStep s _)⟩
  · exact .inl (.refl s)

theorem reportWrite_serves (s : State) (success : Bool) :
    StoreStep s (s.reportWrite success) ∨ ∃ r, s.lnk.waiting = some r ∧ Serves r s (s.reportWrite success) := by
  unfold State.reportWrite
  split
  · exact .inl (.refl s)
  · let ready := s.makeReady (replyTo (requestType .save) (.bare (if success then .ok else .storeFault))) false
    let t : State := { ready with lnk := { ready.lnk with serving := none } }
    have answered : StoreStep s t := (link_storeStep s _).trans (link_storeStep _ _)
    exact (serveWaiting_serves t).imp (fun quiet => (answered.trans quiet).trans (link_storeStep _ _))
      fun ⟨r, waiting, served⟩ => ⟨r, waiting, (served.after answered).before (link_storeStep _ _)⟩
  · exact .inl (link_storeStep s _)

theorem completeWrite_serves (s : State) {w : StoreWrite} (flying : s.sst.inFlight = some w) (success : Bool) :
    StoreStep s (s.completeWrite w success) ∨ ∃ r, s.lnk.waiting = some r ∧ Serves r s (s.completeWrite w success) := by
  let done : State := { s with sst := s.sst.completed w success s.contents s.now }
  let t := if success then done else done.raise storeFaultAlert
  have before : StoreStep s t := by
    refine (completed_storeStep s flying success).trans ?_
    cases success with
    | true => exact .refl _
    | false => exact raise_storeStep _ _
  have waiting : t.lnk.waiting = s.lnk.waiting := by cases success <;> rfl
  exact (reportWrite_serves t success).imp before.trans fun ⟨r, named, served⟩ => ⟨r, waiting ▸ named, served.after before⟩

/-! ### What a command does -/

/-- What an event does to a state, by the command that brings it. -/
inductive Occurs (s : State) : Instr → State → Prop where
  | powerOn : Occurs s .powerOn s.powerOn
  | startupEnd (tick : Tick) (starting : s.phase = .startup) : Occurs s (.startupEnd tick) (s.advance tick).endStartup
  | resetBegin (tick : Tick) (running : s.phase = .running) (ready : s.resetReady = true) :
    Occurs s (.resetBegin tick) (s.advance tick).startUp
  | powerLoss (tick : Tick) : Occurs s (.powerLoss tick) s.unpowered
  | pulse (ch : Channel) (high : Bool) (tick : Tick) : Occurs s (.pulseTransition ch high tick) (s.pulse ch high tick)
  | countedEdge (ch : Channel) (x : Transition) (running : s.phase = .running) (held : (s.track ch).transition = some x) :
    Occurs s (.countedEdge ch) ((s.advance (x.seenAt + x.filter)).confirmEdge ch x)
  | virtualEdge (ch : Channel) (due : Tick) (running : s.phase = .running) (locked : (s.track ch).lock = .locked)
    (deadline : (s.track ch).deadline = some due) : Occurs s (.virtualEdge ch) ((s.advance due).virtualEdge ch)
  | holdoverDeadline (ch : Channel) (due : Tick) (running : s.phase = .running) (holdover : (s.track ch).lock = .holdover)
    (deadline : (s.track ch).deadline = some due) : Occurs s (.holdoverDeadline ch) ((s.advance due).stall ch)
  | strobe (ch : Channel) (r : StrobeRun) (due : Tick) (running : s.phase = .running) (left : (s.track ch).strobes = some r)
    (at' : r.due = some due) : Occurs s (.strobe ch) ((s.advance due).fireStrobe ch r)
  | conversionComplete (code : Code) (c : Conversion) (running : s.phase = .running) (converting : s.acq.converter = some c) :
    Occurs s (.conversionComplete code) ((s.advance (c.began + conversionTicks)).completeConversion c code)
  | computationEnd (va : Fin 6) (tick : Tick) (comp : Computation) (running : s.phase = .running)
    (computing : (s.ind.get va).computing = some comp) :
    Occurs s (.indicatorComputationEnd va tick) ((s.advance tick).endComputation va comp)
  | powerExpiry (k : KnownPower) (running : s.phase = .running) (known : s.gra.power = some k) :
    Occurs s .powerFreshnessExpiry (s.advance (k.since + powerFreshTicks)).powerUnknown
  | startupSecond (starting : s.phase = .startup) :
    Occurs s .deviceSecond { s.advance s.clk.nextSecond with clk := s.clk.advanced }
  | deviceSecond (running : s.phase = .running) : Occurs s .deviceSecond (s.advance s.clk.nextSecond).deviceSecond
  | ambientStale (a : Ambient) (due : Tick) (running : s.phase = .running) (held : s.icm.ambient = some a) (fresh : a.fresh = true) :
    Occurs s .ambientStale ((s.advance due).ambientExpired a)
  | iceEvaluation (due : Tick) (running : s.phase = .running) (next : s.icm.nextEval = some due) :
    Occurs s .iceEvaluation ((s.advance due).evaluateIcing due)
  | confirmExpiry (due : Tick) (running : s.phase = .running) (suspect : s.icm.state = .suspect)
    (runs : s.icm.tConfirm = some due) : Occurs s .tConfirmExpiry (s.advance due).confirmExpired
  | thawExpiry (due : Tick) (running : s.phase = .running) (thaw : s.icm.state = .thaw) (runs : s.icm.tThaw = .running due) :
    Occurs s .tThawExpiry (s.advance due).thawExpired
  | keyFall (tick : Tick) : Occurs s (.keyFall tick) (s.key tick true Skd.fallen)
  | keyRise (tick : Tick) : Occurs s (.keyRise tick) (s.key tick false Skd.risen)
  | keyLongLow (due : Tick) (running : s.phase = .running) : Occurs s .keyLongLow { s.advance due with skd := s.skd.aborted }
  | trainEnd (n : Nat) (due : Tick) (running : s.phase = .running) (train : s.skd.train = some n) :
    Occurs s .trainEnd ((s.advance due).endTrain n)
  | holdExpiry (due : Tick) (running : s.phase = .running) (runs : s.skd.hold = some due) :
    Occurs s .holdExpiry (s.advance due).expireHold

/-- A command that is about the link or the store alone, or brings a request. -/
def aboutLink : Instr → Bool
  | .serialByte _ _ | .frameTimeout | .replySent _ | .storeWriteComplete _ _ | .lineReturnedHigh _ => true
  | c => c.request.isSome

/-- What a command does to a state. -/
inductive Happens (s : State) (c : Instr) (t : State) : Prop where
  /-- at most time, the link and the store; and time alone for a command that is not about them -/
  | stands (step : StoreStep s t) (quiet : aboutLink c = false → t.lnk = s.lnk ∧ t.sst = s.sst)
  | serves (r : Request) (running : s.phase = .running) (about : s.requestIn c = some r) (served : Serves r s t)
  | occurs (event : Occurs s c t)

/-- An event whose instant the state fixes happens then, or does not happen. -/
theorem atDue_happens {s : State} {c : Instr} {due : Option Tick} {f : State → State}
    (h : ∀ t, s.phase = .running → due = some t → Happens s c (f (s.advance t))) : Happens s c (s.atDue due f) := by
  unfold State.atDue
  split
  next t running => exact h t running rfl
  next => exact .stands (.refl s) fun _ => ⟨rfl, rfl⟩

theorem whileRunning_happens {s : State} {c : Instr} (tick : Tick) {f : State → State}
    (h : s.phase = .running → Happens s c (f (s.advance tick))) : Happens s c (s.whileRunning tick f) := by
  unfold State.whileRunning
  split
  · exact .stands (.refl s) fun _ => ⟨rfl, rfl⟩
  · exact .stands (advance_storeStep s tick) fun _ => ⟨rfl, rfl⟩
  next running => exact h running

theorem requestIn_of_request {c : Instr} {r : Request} (h : c.request = some r) (s : State) : s.requestIn c = some r := by
  cases c <;> first | exact h | exact absurd h nofun

theorem aboutLink_of_request {c : Instr} {r : Request} (h : c.request = some r) : aboutLink c = true := by
  cases c <;> first | rfl | exact absurd h nofun

theorem request_happens {c : Instr} {r : Request} (h : c.request = some r) (s : State) :
    Happens s c (s.whileRunning (sentAt c) (State.submit r)) := by
  refine whileRunning_happens _ fun running => ?_
  rcases submit_serves (s.advance (sentAt c)) r with quiet | served
  · exact .stands ((advance_storeStep s _).trans quiet) fun other => absurd (aboutLink_of_request h) (by simp [other])
  · exact .serves r running (requestIn_of_request h s) (served.after (advance_storeStep s _))

theorem serialByte_happens (s : State) (a : Arrival) (tick : Tick) (t : State)
    (h : execSerialByte a tick s = .next t) : Happens s (.serialByte a tick) t := by
  unfold execSerialByte at h
  split at h
  · cases h; exact .stands (.refl s) nofun
  · cases h
    refine .stands ((advance_storeStep s tick).trans ?_) nofun
    cases a with
    | byte b => exact .refl _
    | fault low => exact link_storeStep _ _
  next running =>
    cases h
    rcases receive_serves (s.advance tick) a tick with quiet | ⟨r, about, served⟩
    · exact .stands ((advance_storeStep s tick).trans quiet) nofun
    · exact .serves r running about (served.after (advance_storeStep s tick))

theorem storeWrite_happens (s : State) (success : Bool) (tick : Tick) :
    Happens s (.storeWriteComplete success tick) (s.whileRunning tick (State.completeInFlight success)) := by
  refine whileRunning_happens _ fun running => ?_
  unfold State.completeInFlight
  split
  next w flying =>
    rcases completeWrite_serves (s.advance tick) flying success with quiet | ⟨r, waiting, served⟩
    · exact .stands ((advance_storeStep s tick).trans quiet) nofun
    · exact .serves r running waiting (served.after (advance_storeStep s tick))
  · exact .stands (advance_storeStep s tick) nofun

theorem replySent_storeStep (s : State) : StoreStep s s.replySent := by
  unfold State.replySent
  split
  · exact (link_storeStep s _).trans (link_storeStep _ _)
  · exact .refl s

/-- Every command does one of the things named. -/
theorem exec_happens {c : Instr} {s t : State} (h : exec c s = .next t) : Happens s c t := by
  cases row : c.request with
  | some r =>
    rw [exec_request row] at h
    cases h
    exact request_happens row s
  | none =>
    cases c with
    | hello | status | time | setTrack | readTrack | setScan | setInput | clearAverage | readTsa | readIndicators | setGrid
    | readGrid | setRegime | setProfile | readRegime | ambient | setIce | setCurve | readIce | iceRelease | setItem | serviceDone
    | readItems | fetch | snapRead | snapPop | save | reset => exact absurd row nofun
    | powerOn => cases h; exact .occurs .powerOn
    | startupEnd tick =>
      change execStartupEnd tick s = _ at h
      unfold execStartupEnd at h
      split at h <;> cases h
      next starting => exact .occurs (.startupEnd tick starting)
      all_goals exact .stands (.refl s) fun _ => ⟨rfl, rfl⟩
    | resetBegin tick =>
      change execResetBegin tick s = _ at h
      unfold execResetBegin at h
      split at h <;> cases h
      next ready => exact .occurs (.resetBegin tick ready.1 ready.2)
      next => exact .stands (.refl s) fun _ => ⟨rfl, rfl⟩
    | powerLoss tick =>
      change execPowerLoss tick s = _ at h
      unfold execPowerLoss at h
      split at h <;> cases h
      next => exact .stands (.refl s) fun _ => ⟨rfl, rfl⟩
      all_goals exact .occurs (.powerLoss tick)
    | pulseTransition ch high tick => cases h; exact .occurs (.pulse ch high tick)
    | countedEdge ch =>
      cases h
      refine atDue_happens fun due running at' => ?_
      obtain ⟨x, held, rfl⟩ := Option.map_eq_some_iff.1 at'
      simp only [State.confirmHeld]
      rw [show ((s.advance (x.seenAt + x.filter)).track ch).transition = some x from held]
      exact .occurs (.countedEdge ch x running held)
    | virtualEdge ch =>
      cases h
      refine atDue_happens fun due running at' => ?_
      unfold Track.deadlineIn at at'
      split at at'
      next locked => exact .occurs (.virtualEdge ch due running locked at')
      next => exact absurd at' nofun
    | holdoverDeadline ch =>
      cases h
      refine atDue_happens fun due running at' => ?_
      unfold Track.deadlineIn at at'
      split at at'
      next holdover => exact .occurs (.holdoverDeadline ch due running holdover at')
      next => exact absurd at' nofun
    | strobe ch =>
      cases h
      refine atDue_happens fun due running at' => ?_
      obtain ⟨r, left, at'⟩ := Option.bind_eq_some_iff.1 at'
      simp only [State.fireNext]
      rw [show ((s.advance due).track ch).strobes = some r from left]
      exact .occurs (.strobe ch r due running left at')
    | conversionComplete code =>
      cases h
      refine atDue_happens fun due running at' => ?_
      obtain ⟨c, converting, rfl⟩ := Option.map_eq_some_iff.1 at'
      simp only [State.completeRunning]
      rw [show (s.advance (c.began + conversionTicks)).acq.converter = some c from converting]
      exact .occurs (.conversionComplete code c running converting)
    | indicatorComputationEnd va tick =>
      cases h
      refine whileRunning_happens tick fun running => ?_
      unfold State.endRunning
      split
      next comp computing => exact .occurs (.computationEnd va tick comp running computing)
      next => exact .stands (advance_storeStep s tick) fun _ => ⟨rfl, rfl⟩
    | powerFreshnessExpiry =>
      cases h
      refine atDue_happens fun due running at' => ?_
      obtain ⟨k, known, rfl⟩ := Option.map_eq_some_iff.1 at'
      exact .occurs (.powerExpiry k running known)
    | deviceSecond =>
      cases h
      unfold State.tickSecond
      split
      next => exact .stands (.refl s) fun _ => ⟨rfl, rfl⟩
      next starting => exact .occurs (.startupSecond starting)
      next running => exact .occurs (.deviceSecond running)
    | ambientStale =>
      cases h
      refine atDue_happens fun due running at' => ?_
      unfold Icm.staleAt at at'
      split at at'
      next a held =>
        split at at'
        next fresh =>
          simp only [State.expireAmbient]
          rw [show (s.advance due).icm.ambient = some a from held]
          exact .occurs (.ambientStale a due running held fresh)
        next => exact absurd at' nofun
      next => exact absurd at' nofun
    | iceEvaluation =>
      cases h
      refine atDue_happens fun due running next => ?_
      rw [next]
      exact .occurs (.iceEvaluation due running next)
    | tConfirmExpiry =>
      cases h
      refine atDue_happens fun due running at' => ?_
      unfold Icm.confirmAt at at'
      split at at'
      next suspect => exact .occurs (.confirmExpiry due running suspect at')
      next => exact absurd at' nofun
    | tThawExpiry =>
      cases h
      refine atDue_happens fun due running at' => ?_
      unfold Icm.thawAt at at'
      split at at'
      next thaw =>
        cases timer : s.icm.tThaw with
        | running e =>
          obtain rfl : e = due := by simpa [timer, ThawTimer.expiry] using at'
          exact .occurs (.thawExpiry e running thaw timer)
        | stopped | elapsed => simp [timer, ThawTimer.expiry] at at'
      next => exact absurd at' nofun
    | keyFall tick => cases h; exact .occurs (.keyFall tick)
    | keyRise tick => cases h; exact .occurs (.keyRise tick)
    | keyLongLow =>
      cases h
      exact atDue_happens fun due running _ => .occurs (.keyLongLow due running)
    | trainEnd =>
      cases h
      refine atDue_happens fun due running at' => ?_
      unfold Skd.trainEndsAt at at'
      split at at'
      next n _ _ train _ =>
        rw [train]
        exact .occurs (.trainEnd n due running train)
      next => exact absurd at' nofun
    | holdExpiry =>
      cases h
      exact atDue_happens fun due running runs => .occurs (.holdExpiry due running runs)
    | serialByte a tick => exact serialByte_happens s a tick t h
    | frameTimeout =>
      cases h
      exact atDue_happens fun due _ _ => .stands ((advance_storeStep s due).trans (link_storeStep _ _)) nofun
    | replySent tick =>
      cases h
      exact whileRunning_happens tick fun _ => .stands ((advance_storeStep s tick).trans (replySent_storeStep _)) nofun
    | storeWriteComplete success tick => cases h; exact storeWrite_happens s success tick
    | lineReturnedHigh tick =>
      change execLineReturnedHigh tick s = _ at h
      unfold execLineReturnedHigh at h
      split at h <;> cases h
      next => exact .stands (.refl s) fun _ => ⟨rfl, rfl⟩
      all_goals exact .stands ((advance_storeStep s tick).trans (link_storeStep _ _)) nofun

end Sys2Proof.Machine
end

section
set_option Elab.async false
/-! What each command may touch, and how a law of the device is carried through a step. -/

open Sys2Proof Sys2Proof.Machine

namespace Sys2Proof.Machine

/-! ### The footprint of a command -/

/-- What an event may break, beyond the link and the store. -/
def ownFree : Instr → List Aspect
  | .powerOn | .startupEnd _ | .resetBegin _ | .powerLoss _ => Aspect.all.erase .pending
  | .pulseTransition _ _ _ | .countedEdge _ | .virtualEdge _ | .holdoverDeadline _ => [.trk, .regime, .gathering]
  | .strobe _ => [.trk, .gathering]
  | .deviceSecond => [.clk, .items]
  | .ambientStale | .iceEvaluation | .tConfirmExpiry | .tThawExpiry => [.icing]
  | .keyFall _ | .keyRise _ | .keyLongLow | .trainEnd | .holdExpiry => [.skd]
  | _ => []

/-- What a command may break: the link, the store, what its event is about, and what its request is about. -/
def touched (s : State) (c : Instr) : List Aspect :=
  .lnk :: .sst :: (ownFree c ++ ((s.requestIn c).map freeIn).getD [])

theorem unpowered_pending (s : State) : s.unpowered.pending = s.pending := rfl

theorem startUp_pending (s : State) : s.startUp.pending = s.pending := by
  unfold State.startUp
  split <;> rfl

/-- A new life of the part leaves only the queue. -/
theorem Evolves.of_pending {s t : State} (h : t.pending = s.pending) : Evolves (Aspect.all.erase .pending) s t :=
  fun a ha => by
    obtain rfl : a = .pending := by
      have mem := a.mem_all
      cases a <;> first | rfl | exact absurd (by decide) ha
    exact h

theorem advance_evolves (s : State) (tick : Tick) : Evolves [] s (s.advance tick) :=
  (Changes.of_eq rfl : Changes [.now] s (s.advance tick)).evolves

theorem pulse_evolves (s : State) (ch : Channel) (high : Bool) (tick : Tick) : Evolves [.trk, .regime, .gathering] s (s.pulse ch high tick) := by
  unfold State.pulse
  split
  · exact setTrack_evolves s ch _
  · exact (advance_evolves s tick).mono.trans (setTrack_evolves _ ch _)
  · exact (advance_evolves s tick).mono.trans (setTrack_evolves _ ch _)

theorem key_evolves (s : State) (tick : Tick) (low : Bool) (judge : Skd → Tick → Skd) : Evolves [.skd] s (s.key tick low judge) := by
  unfold State.key
  split
  · exact setSkd_evolves s _
  · exact (advance_evolves s tick).mono.trans (setSkd_evolves _ _)
  · exact (advance_evolves s tick).mono.trans (setSkd_evolves _ _)

theorem Evolves.at {free more : List Aspect} {s t : State} {tick : Tick} (h : Evolves free (s.advance tick) t)
    (sub : free ⊆ more := by decide) : Evolves more s t :=
  ((advance_evolves s tick).within more).trans (h.mono sub)

theorem Evolves.own {free : List Aspect} {s t : State} (h : Evolves free s t) : Evolves (.sst :: free) s t :=
  h.mono fun _ ha => by simp [ha]

theorem Occurs.evolves {s t : State} {c : Instr} (h : Occurs s c t) : Evolves (.sst :: ownFree c) s t := by
  cases h with
  | powerOn => exact (Evolves.of_pending ((startUp_pending _).trans (unpowered_pending s))).own
  | startupEnd tick starting => exact (Evolves.of_pending (s := s) (t := (s.advance tick).endStartup) rfl).own
  | resetBegin tick running ready => exact (Evolves.of_pending (startUp_pending (s.advance tick))).own
  | powerLoss tick => exact (Evolves.of_pending (unpowered_pending s)).own
  | pulse ch high tick => exact (pulse_evolves s ch high tick).mono (by simp [ownFree])
  | countedEdge ch x running held => exact (confirmEdge_evolves _ ch x).at (by simp [ownFree])
  | virtualEdge ch due running locked deadline => exact (virtualEdge_evolves _ ch).at (by simp [ownFree])
  | holdoverDeadline ch due running holdover deadline => exact (stall_evolves _ ch).at (by simp [ownFree])
  | strobe ch r due running left at' => exact (fireStrobe_evolves _ ch r).at (by simp [ownFree])
  | conversionComplete code conv running converting => exact (completeConversion_evolves _ conv code).at (by simp [ownFree])
  | computationEnd va tick comp running computing => exact (endComputation_evolves _ va comp).at (by simp [ownFree])
  | powerExpiry k running known => exact (powerUnknown_evolves _).at (by simp [ownFree])
  | startupSecond starting => exact (Changes.of_eq rfl : Changes [.now, .clk] s _).evolves
  | deviceSecond running => exact (deviceSecond_evolves _).at (by simp [ownFree])
  | ambientStale a due running held fresh => exact (ambientExpired_evolves _ a).at (by simp [ownFree])
  | iceEvaluation due running next => exact (evaluateIcing_evolves _ due).at (by simp [ownFree])
  | confirmExpiry due running suspect runs => exact (confirmExpired_evolves _).at (by simp [ownFree])
  | thawExpiry due running thaw runs => exact (thawExpired_evolves _).at (by simp [ownFree])
  | keyFall tick => exact (key_evolves s tick true _).mono (by simp [ownFree])
  | keyRise tick => exact (key_evolves s tick false _).mono (by simp [ownFree])
  | keyLongLow due running => exact (setSkd_evolves (s.advance due) _).at (by simp [ownFree])
  | trainEnd n due running train => exact (endTrain_evolves _ n).at (by simp [ownFree])
  | holdExpiry due running runs => exact (expireHold_evolves _).at (by simp [ownFree])

theorem Serves.evolves {r : Request} {s t : State} (h : Serves r s t) : Evolves (.lnk :: .sst :: freeIn r) s t := by
  obtain ⟨u, ⟨before, -, -⟩, ⟨after, -, -⟩⟩ := h
  have sub : [Aspect.lnk, .sst] ⊆ .lnk :: .sst :: freeIn r := by simp
  exact ((before.mono sub).trans ((answer_evolves u r).mono (by simp))).trans (after.mono sub)

theorem Happens.evolves {s t : State} {c : Instr} (h : Happens s c t) : Evolves (touched s c) s t := by
  cases h with
  | stands step => exact step.1.mono (by simp [touched])
  | serves r running about served =>
    refine served.evolves.mono fun a ha => ?_
    simp only [touched, about, Option.map_some, Option.getD_some, List.mem_cons, List.mem_append] at ha ⊢
    tauto
  | occurs event =>
    refine event.evolves.mono fun a ha => ?_
    simp only [touched, List.mem_cons, List.mem_append] at ha ⊢
    tauto

/-! ### Laws and steps -/

/-- What every command keeps, and the queue's front does not matter to, every step keeps. -/
theorem step_carries {L : State → Prop} (queue : ∀ s rest, L s → L { s with pending := rest })
    (command : ∀ c s t, exec c s = .next t → L s → L t) (s t : State) (law : L s) (h : step s = .next t) : L t := by
  unfold step at h
  split at h
  · cases h; exact law
  next c rest _ => exact command c _ t h (queue s rest law)

/-- The same, by what a command does. -/
theorem step_keeps {L : State → Prop} (queue : ∀ s rest, L s → L { s with pending := rest })
    (command : ∀ c s t, Happens s c t → L s → L t) (s t : State) (law : L s) (h : step s = .next t) : L t :=
  step_carries queue (fun c s t ran => command c s t (exec_happens ran)) s t law h

/-- A law that reads certain aspects is kept when it is kept by the requests and the events that may break one of them. -/
theorem Happens.keeps {L : State → Prop} (reads : List Aspect) {s t : State} {c : Instr} (h : Happens s c t)
    (carried : ∀ {s t : State}, (∀ a ∈ reads, a.Kept s t) → L s → L t) (quiet : ∀ a ∈ reads, a ∉ [Aspect.lnk, .sst])
    (requests : ∀ r, (∃ a ∈ reads, a ∈ freeIn r) → ∀ u, u.phase = .running → L u → L (u.answer r).1)
    (events : (∃ a ∈ reads, a ∈ ownFree c) → Occurs s c t → L s → L t) (law : L s) : L t := by
  cases h with
  | stands step => exact carried (fun a ha => step.1 a (quiet a ha)) law
  | serves r running about served =>
    obtain ⟨u, ⟨before, -, -⟩, ⟨after, -, -⟩⟩ := served
    have atU : L u := carried (fun a ha => before a (quiet a ha)) law
    refine carried (fun a ha => after a (quiet a ha)) ?_
    by_cases free : ∃ a ∈ reads, a ∈ freeIn r
    · exact requests r free u ((show u.phase = s.phase from before .phase (by decide)).trans running) atU
    · exact carried (fun a ha => answer_evolves u r a fun mem => free ⟨a, ha, mem⟩) atU
  | occurs event =>
    by_cases free : ∃ a ∈ reads, a ∈ ownFree c
    · exact events free event law
    · refine carried (fun a ha => event.evolves a fun mem => ?_) law
      rcases List.mem_cons.1 mem with rfl | own
      · exact quiet _ ha (by decide)
      · exact free ⟨a, ha, own⟩

end Sys2Proof.Machine

namespace Sys2Proof.Machine

/-- Settles O1: the queue's front is what a step takes, by its definition. -/
theorem stepRunsFrontCommand : Obligations.StepRunsFrontCommand := fun _ _ _ => rfl

/-- Settles O2: no effect a command can have reaches the queue. -/
theorem commandsLeaveTheQueue : Obligations.CommandsLeaveTheQueue := by
  intro c s t h
  have spared (r : Request) : Aspect.pending ∉ freeIn r := by cases r <;> simp [freeIn]
  have own (c : Instr) : Aspect.pending ∉ ownFree c := by cases c <;> simp [ownFree, Aspect.all]
  refine (exec_happens h).evolves .pending ?_
  cases about : s.requestIn c with
  | none => simp [touched, about, own]
  | some r => simp [touched, about, own, spared]

end Sys2Proof.Machine
end

section
set_option Elab.async false
/-! The laws of the reporting blocks and of the service mode. -/

namespace Sys2Proof.Machine

/-! ### The alert list -/

/-- At most 32 records, no two of one identity. -/
def Alt.Distinct (l : Alt) : Prop := l.records.length ≤ 32 ∧ l.records.Pairwise fun r q => r.same q = false

/-- A list of records with another at its end, of an identity that is new. -/
theorem create_distinct {l : Alt} {r : AlertRecord} (h : l.Distinct) (room : l.records.length < 32)
    (new : ∀ x ∈ l.records, x.same r = false) : (l.create r).Distinct := by
  obtain ⟨-, distinct⟩ := h
  refine ⟨by simpa [Alt.create] using room, ?_⟩
  refine List.pairwise_append.2 ⟨distinct, List.pairwise_singleton _ _, fun x hx y hy => ?_⟩
  rw [List.mem_singleton.1 hy]
  exact new x hx

/-- Eviction makes room. -/
theorem evict_distinct {l : Alt} {v : Severity} (h : l.Distinct) (held : l.records.any (fun x => x.severity = v) = true) :
    (l.evict v).Distinct ∧ (l.evict v).records.length < 32 := by
  obtain ⟨length, distinct⟩ := h
  obtain ⟨x, mem, severe⟩ := List.any_eq_true.1 held
  have fewer : (l.evict v).records.length = l.records.length - 1 := List.length_eraseP_of_mem mem severe
  have some : 0 < l.records.length := List.length_pos_of_mem mem
  exact ⟨⟨by omega, distinct.sublist List.eraseP_sublist⟩, by omega⟩

theorem mergedWith_same (x y r : AlertRecord) : (x.mergedWith r).same y = x.same y := rfl

theorem same_mergedWith (x y r : AlertRecord) : x.same (y.mergedWith r) = x.same y := rfl

theorem place_distinct {l : Alt} (h : l.Distinct) (r : AlertRecord) : (l.place r).Distinct := by
  unfold Alt.place
  split
  · obtain ⟨length, distinct⟩ := h
    refine ⟨by simpa using length, List.pairwise_map.2 (distinct.imp fun {x y} differ => ?_)⟩
    have fst (z : AlertRecord) : AlertRecord.same (if x.same r then x.mergedWith r else x) z = x.same z := by
      split
      · exact mergedWith_same ..
      · rfl
    have snd : x.same (if y.same r then y.mergedWith r else y) = x.same y := by
      split
      · exact same_mergedWith ..
      · rfl
    rw [fst, snd, differ]
  next unknown =>
    have new : ∀ x ∈ l.records, x.same r = false := by simpa using unknown
    have stillNew (v : Severity) : ∀ x ∈ (l.evict v).records, x.same r = false := fun x hx =>
      new x (List.mem_of_mem_eraseP hx)
    split
    next room => exact create_distinct h room new
    · split
      next note => exact create_distinct (evict_distinct h note).1 (evict_distinct h note).2 (stillNew .note)
      · split
        next warn => exact create_distinct (evict_distinct h warn.2).1 (evict_distinct h warn.2).2 (stillNew .warn)
        · exact h

theorem alertLaw_iff (s : State) :
    AlertLaw s ↔ s.alt.Distinct ∧ (s.phase ≠ .off → s.alt.attn = decide (s.phase = .running ∧ s.alt.records ≠ [])) := by
  unfold AlertLaw Alt.Distinct
  exact and_assoc.symm

/-- Alerts that are placed keep the law. -/
theorem alertLaw_carried {s t : State} (h : ∀ a ∈ [Aspect.alerts], a.Kept s t) (law : AlertLaw s) : AlertLaw t := by
  obtain ⟨phase, placed⟩ := h .alerts (by simp)
  rw [alertLaw_iff] at law ⊢
  rw [phase]
  generalize t.alt = l at placed ⊢
  induction placed with
  | refl => exact law
  | tail _ last ih =>
    obtain ⟨r, rfl⟩ := last
    exact ⟨place_distinct ih.1 r, fun _ => rfl⟩

theorem startUp_phase (s : State) : s.startUp.phase = .startup := by
  unfold State.startUp
  split <;> rfl

/-- An alert list that is empty, with the line released. -/
theorem alertLaw_of_fresh {s : State} (alt : s.alt.records = [])
    (attn : s.phase ≠ .off → s.alt.attn = false) : AlertLaw s := by
  rw [alertLaw_iff]
  exact ⟨by simp [Alt.Distinct, alt], by simpa [alt] using attn⟩

theorem startUp_alertLaw (s : State) : AlertLaw s.startUp := by
  have loaded (image : Image) : AlertLaw (s.loadedFrom image) := alertLaw_of_fresh rfl fun _ => rfl
  unfold State.startUp
  split
  · exact loaded _
  · exact alertLaw_carried (fun a _ => raise_evolves _ storeDefaultsAlert a (List.not_mem_nil)) (loaded _)

theorem serveFetch_alertLaw {s : State} (law : AlertLaw s) : AlertLaw (serveFetch s).1 := by
  rw [alertLaw_iff] at law ⊢
  obtain ⟨⟨length, distinct⟩, -⟩ := law
  refine ⟨⟨?_, distinct.sublist (List.drop_sublist _ _)⟩, fun _ => rfl⟩
  exact (List.drop_sublist fetchCount s.alt.records).length_le.trans length

/-- Settles O3: alerts join the list only by `Alt.place`, which keeps identities apart; FETCH takes a front part; and a start-up
begins a new list. -/
theorem alertLawKept : Obligations.AlertLawKept := by
  refine step_keeps (fun _ _ law => law) fun c s t h law => h.keeps [.alerts] alertLaw_carried (by decide) ?_ ?_ law
  · intro r free u running law
    cases r with
    | fetch => exact serveFetch_alertLaw law
    | _ => simp [freeIn] at free
  · intro free event law
    cases event with
    | powerOn => exact startUp_alertLaw _
    | resetBegin tick running ready => exact startUp_alertLaw _
    | powerLoss tick => exact alertLaw_of_fresh rfl fun off => absurd rfl off
    | startupEnd tick starting =>
      rw [alertLaw_iff] at law ⊢
      exact ⟨law.1, fun _ => rfl⟩
    | _ => simp [ownFree] at free

/-! ### The snapshot stack -/

theorem snapshotLaw_carried {s t : State} (h : ∀ a ∈ [Aspect.snapshots], a.Kept s t) (law : SnapshotLaw s) : SnapshotLaw t := by
  have taken : Relation.ReflTransGen SnapshotTaken s.sns t.sns := h .snapshots (by simp)
  unfold SnapshotLaw at law ⊢
  generalize t.sns = n at taken ⊢
  induction taken with
  | refl => exact law
  | tail _ last ih =>
    obtain ⟨length, rising, below⟩ := ih
    obtain ⟨p, number, takes, rfl⟩ := last
    obtain ⟨room, left⟩ := of_decide_eq_true takes
    refine ⟨by simpa using room, List.pairwise_append.2 ⟨rising, List.pairwise_singleton _ _, fun x hx y hy => ?_⟩, fun x hx => ?_⟩
    · rw [List.mem_singleton.1 hy, number]
      exact (below x hx).1
    · rcases List.mem_append.1 hx with old | new
      · exact ⟨(below x old).1.trans (Nat.lt_succ_self _), (below x old).2⟩
      · rw [List.mem_singleton.1 new, number]
        exact ⟨Nat.lt_succ_self _, left⟩

theorem startUp_sns (s : State) : s.startUp.sns = Sns.afterStartUp := by
  unfold State.startUp
  split <;> rfl

theorem snapshotLaw_of_fresh {s : State} (sns : s.sns = Sns.afterStartUp) : SnapshotLaw s := by
  simp [SnapshotLaw, sns, Sns.afterStartUp]

theorem serveSnapPop_snapshotLaw (number : Nat) {s : State} (law : SnapshotLaw s) : SnapshotLaw (serveSnapPop number s).1 := by
  unfold serveSnapPop
  split
  · exact law
  · split
    · exact law
    · obtain ⟨length, rising, below⟩ := law
      have part := List.dropLast_sublist s.sns.stack
      exact ⟨part.length_le.trans length, rising.sublist part, fun p hp => below p (part.subset hp)⟩

/-- Settles O4: a snapshot is taken with the next number, SNAP_POP removes the top, and a start-up begins a new stack. -/
theorem snapshotLawKept : Obligations.SnapshotLawKept := by
  refine step_keeps (fun _ _ law => law) fun c s t h law => h.keeps [.snapshots] snapshotLaw_carried (by decide) ?_ ?_ law
  · intro r free u running law
    cases r with
    | snapPop number => exact serveSnapPop_snapshotLaw number law
    | _ => simp [freeIn] at free
  · intro free event law
    cases event with
    | powerOn => exact snapshotLaw_of_fresh (startUp_sns _)
    | resetBegin tick running ready => exact snapshotLaw_of_fresh (startUp_sns _)
    | powerLoss tick => exact snapshotLaw_of_fresh rfl
    | startupEnd tick starting => exact law
    | _ => simp [ownFree] at free

end Sys2Proof.Machine
end

section
set_option Elab.async false
/-! The laws of the service mode and of icing. -/

namespace Sys2Proof.Machine

/-! ### The service mode -/

/-- A key decoder that fits a phase (R145, R147). -/
def Skd.Lawful (k : Skd) (phase : Phase) : Prop :=
  (k.hold = none ↔ k.mode = .normal) ∧ (∀ n, k.train = some n → 1 ≤ n ∧ n ≤ 255) ∧ k.lastTrain ≤ 255
    ∧ (phase ≠ .running → k.mode = .normal)

theorem serviceLaw_iff (s : State) : ServiceLaw s ↔ s.skd.Lawful s.phase := Iff.rfl

theorem trainAfterLow_range {train : Option Nat} (h : ∀ n, train = some n → 1 ≤ n ∧ n ≤ 255) (length n : Nat)
    (after : trainAfterLow train length = some n) : 1 ≤ n ∧ n ≤ 255 := by
  unfold trainAfterLow at after
  split at after
  · exact h n after
  · split at after
    · cases train with
      | none =>
        obtain rfl : 1 = n := by simpa [trainAfterPulse] using after
        decide
      | some k =>
        obtain rfl : satAdd 255 k 1 = n := by simpa [trainAfterPulse] using after
        have := h k rfl
        simp only [satAdd]
        omega
    · exact absurd after nofun

theorem fallen_lawful {k : Skd} {phase : Phase} (h : k.Lawful phase) (now : Tick) : (k.fallen now).Lawful phase := by
  unfold Skd.fallen
  split <;> exact h

theorem risen_lawful {k : Skd} {phase : Phase} (h : k.Lawful phase) (now : Tick) : (k.risen now).Lawful phase := by
  obtain ⟨hold, train, last, mode⟩ := h
  unfold Skd.risen
  split
  · split
    next f _ => exact ⟨hold, trainAfterLow_range train (now - f), last, mode⟩
    · exact ⟨hold, train, last, mode⟩
  · exact ⟨hold, train, last, mode⟩

theorem key_serviceLaw {s : State} (tick : Tick) (low : Bool) {judge : Skd → Tick → Skd}
    (judged : ∀ {k : Skd} {phase : Phase}, k.Lawful phase → ∀ now, (judge k now).Lawful phase) (law : ServiceLaw s) :
    ServiceLaw (s.key tick low judge) := by
  unfold State.key
  split
  · exact law
  · exact law
  · exact judged law _

theorem setMode_skd (s : State) (mode : ServiceMode) (count : Nat) : (s.setMode mode count).skd = { s.skd with mode := mode } := by
  rw [setMode_frame]

theorem setMode_phase (s : State) (mode : ServiceMode) (count : Nat) : (s.setMode mode count).phase = s.phase := by
  rw [setMode_frame]

theorem endTrain_serviceLaw {s : State} {n : Nat} (running : s.phase = .running) (train : s.skd.train = some n)
    (law : ServiceLaw s) : ServiceLaw (s.endTrain n) := by
  obtain ⟨hold, range, -, -⟩ := law
  rw [serviceLaw_iff, endTrain_eq, setMode_skd, setMode_phase]
  refine ⟨?_, nofun, (range n train).2, fun other => absurd running other⟩
  by_cases acts : TrainActs s.skd.mode n
  · simp [Skd.trainClosed, acts]
  · simpa [Skd.trainClosed, acts, modeAtTrainEnd_ignored acts] using hold

theorem expireHold_serviceLaw {s : State} (law : ServiceLaw s) : ServiceLaw s.expireHold := by
  obtain ⟨-, range, last, -⟩ := law
  rw [serviceLaw_iff, State.expireHold, setMode_skd, setMode_phase]
  exact ⟨by simp, range, last, fun _ => rfl⟩

theorem afterStartUp_skd_lawful (low : Bool) (phase : Phase) : (Skd.afterStartUp low).Lawful phase :=
  ⟨by simp [Skd.afterStartUp], nofun, Nat.zero_le _, fun _ => rfl⟩

theorem startUp_skd (s : State) : s.startUp.skd = Skd.afterStartUp s.skd.low := by
  unfold State.startUp
  split <;> rfl

theorem serviceLaw_of_started {s : State} {low : Bool} (skd : s.skd = Skd.afterStartUp low) : ServiceLaw s := by
  rw [serviceLaw_iff, skd]
  exact afterStartUp_skd_lawful low _

/-- Settles O7: only the key, the end of a train and the hold timer move the key decoder between start-ups. -/
theorem serviceLawKept : Obligations.ServiceLawKept := by
  refine step_keeps (fun _ _ law => law) fun c s t h law => h.keeps [.skd, .phase] ?_ (by decide) ?_ ?_ law
  · intro s t kept law
    rw [serviceLaw_iff, show t.skd = s.skd from kept .skd (by simp), show t.phase = s.phase from kept .phase (by simp)]
    exact law
  · intro r free
    cases r <;> simp [freeIn] at free
  · intro free event law
    cases event with
    | powerOn => exact serviceLaw_of_started (startUp_skd _)
    | resetBegin tick running ready => exact serviceLaw_of_started (startUp_skd _)
    | powerLoss tick => exact serviceLaw_of_started rfl
    | startupEnd tick starting =>
      obtain ⟨hold, range, last, -⟩ := law
      exact ⟨hold, range, last, fun other => absurd rfl other⟩
    | keyFall tick => exact key_serviceLaw tick true fallen_lawful law
    | keyRise tick => exact key_serviceLaw tick false risen_lawful law
    | keyLongLow due running =>
      obtain ⟨hold, -, last, mode⟩ := law
      exact ⟨hold, nofun, last, mode⟩
    | trainEnd n due running train => exact endTrain_serviceLaw (s := s.advance due) running train law
    | holdExpiry due running runs => exact expireHold_serviceLaw (s := s.advance due) law
    | _ => simp [ownFree] at free

/-! ### Icing -/

/-- An icing monitor that fits a phase (R118 to R120, R126). -/
def Icm.Lawful (m : Icm) (phase : Phase) : Prop :=
  (phase ≠ .off → m.icestop = m.state.stops) ∧ m.timersFit phase = true ∧ m.e1 < 3 ∧ m.e2 < 3 ∧ (m.runKind = none ↔ m.e2 = 0)

theorem icingLaw_iff (s : State) : IcingLaw s ↔ s.icm.Lawful s.phase := Iff.rfl

/-- A state without a timer is entered (R118). -/
def Icm.untimed (m : Icm) (st : IcingState) : Icm := { m.entering st with tConfirm := none, tThaw := .stopped }

theorem enterUntimed_eq (s : State) (st : IcingState) : s.enterUntimed st = { s with icm := s.icm.untimed st } := rfl

theorem untimed_lawful (m : Icm) {st : IcingState} (h : st ∈ [IcingState.clear, .watch, .iced]) (phase : Phase) :
    (m.untimed st).Lawful phase := by
  refine ⟨fun _ => rfl, ?_, Nat.zero_lt_succ _, Nat.zero_lt_succ _, by simp [Icm.untimed, Icm.entering]⟩
  cases st with
  | clear | watch | iced => rfl
  | suspect | thaw => simp at h

theorem accrue_icm (s : State) (concerns : Item → Bool) (amount : Nat) : (s.accrue concerns amount).icm = s.icm := by
  rw [accrue_onlyItems s concerns amount]

theorem requestWrite_icm (s : State) : s.requestWrite.icm = s.icm := rfl

theorem enterIcedEvent_icm (s : State) : s.enterIcedEvent.icm = s.icm.untimed .iced := by
  rw [enterIcedEvent_eq, requestWrite_icm]
  unfold State.icedEvent
  dsimp only
  rw [accrue_icm]
  split <;> rfl

theorem reenterIced_icm (s : State) : s.reenterIced.icm = s.icm.untimed .iced := rfl

theorem thawed_icm (s : State) : s.thawed.icm = s.icm.untimed .clear := rfl

theorem released_icm (s : State) : s.released.icm = s.icm.untimed .clear := rfl

theorem enterSuspect_lawful {s : State} {phase : Phase} (watch : s.icm.state = .watch) (h : s.icm.Lawful phase) :
    s.enterSuspect.icm.Lawful phase := by
  obtain ⟨-, timers, -⟩ := h
  refine ⟨fun _ => rfl, ?_, Nat.zero_lt_succ _, Nat.zero_lt_succ _, by simp [State.enterSuspect, Icm.entering]⟩
  simp only [Icm.timersFit, watch, Bool.and_eq_true] at timers
  simpa [Icm.timersFit, State.enterSuspect, Icm.entering] using timers.2

theorem enterThaw_lawful {s : State} {phase : Phase} (iced : s.icm.state = .iced) (h : s.icm.Lawful phase) :
    s.enterThaw.icm.Lawful phase := by
  obtain ⟨-, timers, -⟩ := h
  refine ⟨fun _ => rfl, ?_, Nat.zero_lt_succ _, Nat.zero_lt_succ _, by simp [State.enterThaw, Icm.entering]⟩
  simp only [Icm.timersFit, iced, Bool.and_eq_true] at timers
  simpa [Icm.timersFit, State.enterThaw, Icm.entering] using timers.1

theorem evaluateWatch_lawful {s : State} {phase : Phase} (watch : s.icm.state = .watch) (h : s.icm.Lawful phase)
    (cold deficit imbalance : Option Bool) : (s.evaluateWatch cold deficit imbalance).icm.Lawful phase := by
  have h' := h
  obtain ⟨stop, timers, -, e2, kind⟩ := h'
  unfold State.evaluateWatch
  split
  · exact untimed_lawful _ (by decide) _
  · split
    · split
      · exact enterSuspect_lawful watch h
      next below => exact ⟨stop, timers, Nat.lt_of_not_ge below, e2, kind⟩
    · exact ⟨stop, timers, Nat.zero_lt_succ _, e2, kind⟩
  · exact h

theorem runAfter_pos (m : Icm) (kind : RunKind) : m.runAfter kind ≠ 0 := by
  unfold Icm.runAfter
  split <;> omega

theorem evaluateSuspect_lawful {s : State} {phase : Phase} (h : s.icm.Lawful phase) (deficit imbalance : Option Bool) :
    (s.evaluateSuspect deficit imbalance).icm.Lawful phase := by
  have counted (kind : RunKind) (below : ¬3 ≤ s.icm.runAfter kind) :
      Icm.Lawful { s.icm with e2 := s.icm.runAfter kind, runKind := some kind } phase := by
    obtain ⟨stop, timers, e1, -, -⟩ := h
    exact ⟨stop, timers, e1, Nat.lt_of_not_ge below, by simp [runAfter_pos]⟩
  unfold State.evaluateSuspect
  split
  · split
    · rw [enterIcedEvent_icm]
      exact untimed_lawful _ (by decide) _
    next below => exact counted .confirm below
  · split
    · exact untimed_lawful _ (by decide) _
    next below => exact counted .clear below
  · obtain ⟨stop, timers, e1, -, -⟩ := h
    exact ⟨stop, timers, e1, Nat.zero_lt_succ _, by simp⟩

theorem moveIcing_lawful {s : State} {phase : Phase} (h : s.icm.Lawful phase) (cold deficit imbalance : Option Bool) :
    (s.moveIcing cold deficit imbalance).icm.Lawful phase := by
  unfold State.moveIcing
  split
  · split
    · exact untimed_lawful _ (by decide) _
    · exact h
  next watch => exact evaluateWatch_lawful watch h cold deficit imbalance
  · exact evaluateSuspect_lawful h deficit imbalance
  next iced =>
    unfold State.evaluateIced
    split
    · split
      · exact enterThaw_lawful iced h
      · exact h
    · exact h
  · unfold State.evaluateThaw
    split
    · split
      · exact untimed_lawful _ (by decide) _
      · split
        · exact untimed_lawful _ (by decide) _
        · exact h
    · exact h

theorem evaluateIcing_lawful {s : State} {phase : Phase} (h : s.icm.Lawful phase) (due : Tick) :
    (s.evaluateIcing due).icm.Lawful phase := by
  have moved := moveIcing_lawful (s := s.emptyGatherings due) h s.evalRecord.cold s.evalRecord.deficit s.evalRecord.imbalance
  have learned (t : State) (may : Bool) (o1 : Option Nat) (law : t.icm.Lawful phase) :
      (t.learnBaseline may o1).icm.Lawful phase := by
    unfold State.learnBaseline
    split <;> exact law
  exact learned _ _ _ moved

theorem confirmExpired_lawful (s : State) (phase : Phase) : s.confirmExpired.icm.Lawful phase := by
  unfold State.confirmExpired
  split
  · exact untimed_lawful _ (by decide) _
  · rw [enterIcedEvent_icm]
    exact untimed_lawful _ (by decide) _

theorem thawElapsed_lawful {m : Icm} {phase : Phase} (thaw : m.state = .thaw) (h : m.Lawful phase) :
    Icm.Lawful { m with tThaw := .elapsed } phase := by
  obtain ⟨stop, timers, evidence⟩ := h
  simp only [Icm.timersFit, thaw, Bool.and_eq_true] at timers
  exact ⟨stop, by simpa [Icm.timersFit, thaw] using timers.1, evidence⟩

theorem thawExpired_lawful {s : State} {phase : Phase} (thaw : s.icm.state = .thaw) (h : s.icm.Lawful phase) :
    s.thawExpired.icm.Lawful phase := by
  unfold State.thawExpired
  split
  · split
    · exact untimed_lawful _ (by decide) _
    · exact thawElapsed_lawful thaw h
  · exact thawElapsed_lawful thaw h

theorem afterStartUp_icm_lawful (settings : IceSettings) (curve : List CurvePoint) (baseline learned : Nat) (icing : StoredIcing) :
    (Icm.afterStartUp settings curve baseline learned icing).Lawful .startup := by
  refine ⟨fun _ => rfl, ?_, Nat.zero_lt_succ _, Nat.zero_lt_succ _, by simp [Icm.afterStartUp]⟩
  cases icing <;> rfl

theorem startUp_icingLaw (s : State) : IcingLaw s.startUp := by
  unfold State.startUp
  split <;> exact afterStartUp_icm_lawful ..

theorem unpowered_icingLaw (s : State) : IcingLaw s.unpowered :=
  ⟨fun powered => absurd rfl powered, rfl, Nat.zero_lt_succ _, Nat.zero_lt_succ _, iff_of_true rfl rfl⟩

theorem endStartup_icingLaw {s : State} (starting : s.phase = .startup) (law : IcingLaw s) : IcingLaw s.endStartup := by
  obtain ⟨stop, timers, evidence⟩ := law
  refine ⟨fun _ => stop (by simp [starting]), ?_, evidence⟩
  have state : (s.icm.atStartupEnd s.now).state = s.icm.state := rfl
  change (s.icm.atStartupEnd s.now).timersFit .running = true
  cases named : s.icm.state <;> simp_all [Icm.timersFit, Icm.atStartupEnd]

theorem icingLaw_of_icm {s t : State} (icm : t.icm.Lawful s.phase) (phase : t.phase = s.phase) : IcingLaw t := by
  rw [icingLaw_iff, phase]
  exact icm

/-- Settles O6: each entry to an icing state starts its own timer and stops the others, and the evidence counts stay below their
limits because reaching one is a change of state. -/
theorem icingLawKept : Obligations.IcingLawKept := by
  refine step_keeps (fun _ _ law => law) fun c s t h law => h.keeps [.icing, .phase] ?_ (by decide) ?_ ?_ law
  · intro s t kept law
    have gathers : s.icm.Gathers t.icm := kept .icing (by simp)
    rw [icingLaw_iff, show t.phase = s.phase from kept .phase (by simp), gathers]
    exact law
  · intro r free u running law
    refine icingLaw_of_icm ?_ ((answer_evolves u r) .phase (by cases r <;> simp [freeIn]))
    cases r with
    | ambient f => exact law
    | setIce f =>
      change (serveSetIce f u).1.icm.Lawful _
      unfold serveSetIce
      split
      · split <;> exact law
      · exact law
    | setCurve points =>
      change (serveSetCurve points u).1.icm.Lawful _
      unfold serveSetCurve
      split <;> exact law
    | iceRelease =>
      change (serveIceRelease u).1.icm.Lawful _
      unfold serveIceRelease
      split
      · split
        · exact untimed_lawful _ (by decide) _
        · exact law
      · exact law
    | _ => simp [freeIn] at free
  · intro free event law
    cases event with
    | powerOn => exact startUp_icingLaw _
    | resetBegin tick running ready => exact startUp_icingLaw _
    | powerLoss tick => exact unpowered_icingLaw s
    | startupEnd tick starting => exact endStartup_icingLaw (s := s.advance tick) starting law
    | ambientStale a due running held fresh => exact law
    | iceEvaluation due running next =>
      exact icingLaw_of_icm (s := s) (evaluateIcing_lawful (s := s.advance due) law due)
        (evaluateIcing_evolves (s.advance due) due .phase (by decide))
    | confirmExpiry due running suspect runs =>
      exact icingLaw_of_icm (s := s) (confirmExpired_lawful (s.advance due) _)
        (confirmExpired_evolves (s.advance due) .phase (by decide))
    | thawExpiry due running thaw runs =>
      exact icingLaw_of_icm (s := s) (thawExpired_lawful (s := s.advance due) thaw law)
        (thawExpired_evolves (s.advance due) .phase (by decide))
    | _ => simp [ownFree] at free

end Sys2Proof.Machine
end

section
set_option Elab.async false
/-! What the tracking operations make of their channel: each one sets its own track to a function of what it was, and no other. -/

namespace Sys2Proof.Machine

/-! ### Operations that move no channel -/

@[simp] theorem takeStrobe_trk (s : State) (ch : Channel) (slot : Nat) : (s.takeStrobe ch slot).trk = s.trk :=
  takeStrobe_evolves s ch slot .trk (by decide)

@[simp] theorem freshBuffers_trk (s : State) (ch : Channel) : (s.freshBuffers ch).trk = s.trk :=
  freshBuffers_evolves s ch .trk (by decide)

@[simp] theorem clearList_trk (s : State) (ch : Channel) : (s.clearList ch).trk = s.trk :=
  clearList_evolves s ch .trk (by decide)

@[simp] theorem clearedForLock_trk (s : State) (ch : Channel) (z : Nat) : (s.clearedForLock ch z).trk = s.trk :=
  clearedForLock_evolves s ch z .trk (by decide)

@[simp] theorem lockLost_trk (s : State) (ch : Channel) : (s.lockLost ch).trk = s.trk :=
  lockLost_evolves s ch .trk (by decide)

@[simp] theorem lockGained_trk (s : State) (ch : Channel) : (s.lockGained ch).trk = s.trk :=
  lockGained_evolves s ch .trk (by decide)

@[simp] theorem handRevolution_trk (s : State) (ch : Channel) (rev : OpenRev) (n : Nat) (edge : Tick) :
    (s.handRevolution ch rev n edge).trk = s.trk :=
  handRevolution_evolves s ch rev n edge .trk (by decide)

@[simp] theorem dropGathered_trk (s : State) (ch : Channel) : (s.dropGathered ch).trk = s.trk :=
  dropGathered_evolves s ch .trk (by decide)

@[simp] theorem arbitrate_trk (s : State) (b : Bool) : (s.arbitrate b).trk = s.trk := arbitrate_evolves s b .trk (by decide)

@[simp] theorem dropScan_trk (s : State) (ch : Channel) : (s.dropScan ch).trk = s.trk := rfl

/-! ### Revolutions -/

/-- A channel that opens a revolution (R7, R15). -/
def Track.opening (t : Track) (ch : Channel) (edge : Tick) (samples : Nat) (virtual : Bool) : Track :=
  { t with rev := some ⟨⟨ch, t.nextSerial⟩, samples, false, virtual, 0, edge⟩, nextSerial := t.nextSerial + 1 }

@[simp] theorem openRevolution_trk (s : State) (ch : Channel) (edge : Tick) (samples : Nat) (virtual : Bool) :
    (s.openRevolution ch edge samples virtual).trk = s.trk.set ch ((s.track ch).opening ch edge samples virtual) := rfl

/-- A channel with the strobes of an edge taken at `taking` left to fire (R13). -/
def Track.scheduled (t : Track) (taking : Tick) : Track :=
  if t.lock.following then
    { t with
      strobes :=
        some ⟨taking, t.tprev.getD 0, t.settings.strobesPerInterval, t.p * t.settings.strobesPerInterval, 1⟩ }
  else t

theorem scheduled_following {t : Track} (h : t.lock.following = true) (taking : Tick) :
    t.scheduled taking =
      { t with
        strobes :=
          some ⟨taking, t.tprev.getD 0, t.settings.strobesPerInterval, t.p * t.settings.strobesPerInterval, 1⟩ } := if_pos h

theorem scheduled_not_following {t : Track} (h : t.lock.following = false) (taking : Tick) : t.scheduled taking = t :=
  if_neg (by simp [h])

theorem scheduleStrobes_eq (s : State) (ch : Channel) (taking : Tick) :
    s.scheduleStrobes ch taking = s.setTrack ch ((s.track ch).scheduled taking) := by
  unfold State.scheduleStrobes Track.scheduled
  dsimp only
  split
  · rfl
  · exact (State.setTrack_track s ch).symm

@[simp] theorem scheduleStrobes_trk (s : State) (ch : Channel) (taking : Tick) :
    (s.scheduleStrobes ch taking).trk = s.trk.set ch ((s.track ch).scheduled taking) := by
  rw [scheduleStrobes_eq]
  rfl

@[simp] theorem startStrobes_trk (s : State) (ch : Channel) (taking : Tick) :
    (s.startStrobes ch taking).trk = s.trk.set ch ((s.track ch).scheduled taking) := by
  unfold State.startStrobes
  dsimp only
  rw [takeStrobe_trk, scheduleStrobes_trk]

@[simp] theorem closeRevolution_trk (s : State) (ch : Channel) (rev : OpenRev) (edge : Tick) :
    (s.closeRevolution ch rev edge).trk = s.trk.set ch ((s.track ch).handingOn rev.ticks) := by
  rw [closeRevolution_eq, handRevolution_trk, State.setTrack_trk]

/-! ### Leaving lock and settings -/

/-- A channel that leaves LOCKED or HOLDOVER (R12). -/
def Track.left (t : Track) (target : LockState) : Track :=
  { t with rev := none, strobes := none, lock := target, deadlineFrom := none }

@[simp] theorem discardRevolution_trk (s : State) (ch : Channel) :
    (s.discardRevolution ch).trk = s.trk.set ch { s.track ch with rev := none, strobes := none } := by
  unfold State.discardRevolution
  rw [arbitrate_trk, dropGathered_trk, dropScan_trk, State.setTrack_trk]

@[simp] theorem leaveLock_trk (s : State) (ch : Channel) (target : LockState) :
    (s.leaveLock ch target).trk = s.trk.set ch ((s.track ch).left target) := by
  simp [State.leaveLock, State.track, Track.left]

theorem leaveLock_track (s : State) (ch : Channel) (target : LockState) :
    (s.leaveLock ch target).track ch = (s.track ch).left target := by
  simp [State.track]

@[simp] theorem applyNow_trk (s : State) (ch : Channel) (new : TrackSettings) :
    (s.applyNow ch new).trk = s.trk.set ch ((s.track ch).applied new) := by
  unfold State.applyNow
  dsimp only
  split
  · rw [clearList_trk, State.setTrack_trk]
  · rfl

/-- A channel that does not follow pulses, its staged settings applied (R20). -/
def Track.settledNow (t : Track) : Track :=
  match t.staged with
  | some new => t.applied new
  | none => t

theorem settledNow_some {t : Track} {new : TrackSettings} (staged : t.staged = some new) : t.settledNow = t.applied new := by
  simp [Track.settledNow, staged]

theorem settledNow_none {t : Track} (staged : t.staged = none) : t.settledNow = t := by
  simp [Track.settledNow, staged]

@[simp] theorem applyStagedNow_trk (s : State) (ch : Channel) :
    (s.applyStagedNow ch).trk = s.trk.set ch (s.track ch).settledNow := by
  unfold State.applyStagedNow
  split
  next new staged => rw [settledNow_some staged, applyNow_trk]
  next staged => rw [settledNow_none staged]; exact (PerChannel.set_get_self ..).symm

/-- What settings applied at a close do to a channel, `old` before them (R20). -/
def Track.effected (t : Track) (old new : TrackSettings) : Track :=
  if ¬new.enable then (t.left .off).turnedOff
  else if old.z ≠ new.z ∨ old.edge ≠ new.edge then { (t.left .acquiring).restarted with transition := none }
  else t

@[simp] theorem applyEffect_trk (s : State) (ch : Channel) (old new : TrackSettings) :
    (s.applyEffect ch old new).trk = s.trk.set ch ((s.track ch).effected old new) := by
  unfold State.applyEffect Track.effected
  dsimp only
  split
  · rw [State.setTrack_trk, leaveLock_trk, PerChannel.set_set, leaveLock_track]
  · split
    · rw [State.setTrack_trk, leaveLock_trk, PerChannel.set_set, leaveLock_track]
    · exact (PerChannel.set_get_self ..).symm

/-- A channel at a close, its staged settings applied (R20). -/
def Track.appliedAtClose (t : Track) : Track :=
  match t.staged with
  | some new => (t.withSettings new).effected t.settings new
  | none => t

theorem appliedAtClose_some {t : Track} {new : TrackSettings} (staged : t.staged = some new) :
    t.appliedAtClose = (t.withSettings new).effected t.settings new := by
  simp [Track.appliedAtClose, staged]

theorem appliedAtClose_none {t : Track} (staged : t.staged = none) : t.appliedAtClose = t := by
  simp [Track.appliedAtClose, staged]

@[simp] theorem applyStagedAtClose_trk (s : State) (ch : Channel) :
    (s.applyStagedAtClose ch).trk = s.trk.set ch (s.track ch).appliedAtClose := by
  unfold State.applyStagedAtClose
  split
  next new staged =>
    rw [appliedAtClose_some staged]
    have effect : ((s.setTrack ch ((s.track ch).withSettings new)).applyEffect ch (s.track ch).settings new).trk
        = s.trk.set ch (((s.track ch).withSettings new).effected (s.track ch).settings new) := by
      rw [applyEffect_trk, State.setTrack_trk, PerChannel.set_set, State.track_setTrack_self]
    dsimp only
    split
    · rw [clearList_trk, effect]
    · exact effect
  next staged => rw [appliedAtClose_none staged]; exact (PerChannel.set_get_self ..).symm

/-! ### Edges -/

/-- A channel at an edge where its index has returned to 0 (R15). -/
def Track.turned (t : Track) (ch : Channel) (edge taking : Tick) (virtual : Bool) : Track :=
  match t.rev with
  | some rev =>
    ((t.opening ch edge (t.staged.getD t.settings).n virtual).handingOn rev.ticks).appliedAtClose.scheduled taking
  | none => (t.opening ch edge t.settings.n virtual).scheduled taking

theorem turned_open {t : Track} {rev : OpenRev} (held : t.rev = some rev) (ch : Channel) (edge taking : Tick) (virtual : Bool) :
    t.turned ch edge taking virtual =
      ((t.opening ch edge (t.staged.getD t.settings).n virtual).handingOn rev.ticks).appliedAtClose.scheduled taking := by
  simp [Track.turned, held]

theorem turned_none {t : Track} (held : t.rev = none) (ch : Channel) (edge taking : Tick) (virtual : Bool) :
    t.turned ch edge taking virtual = (t.opening ch edge t.settings.n virtual).scheduled taking := by
  simp [Track.turned, held]

@[simp] theorem turnRevolution_trk (s : State) (ch : Channel) (edge taking : Tick) (virtual : Bool) :
    (s.turnRevolution ch edge taking virtual).trk = s.trk.set ch ((s.track ch).turned ch edge taking virtual) := by
  unfold State.turnRevolution
  dsimp only
  split
  next rev held => rw [turned_open held]; simp [State.track]
  next held => rw [turned_none held]; simp [State.track]

/-- A channel that takes an edge while it follows pulses (R8 to R10). -/
def Track.followed (t : Track) (ch : Channel) (target : LockState) (edge taking : Tick) (tprev ticks : Nat)
    (unsteady virtual : Bool) : Track :=
  let u := t.pulled target edge taking tprev ticks unsteady virtual
  if (t.p + 1) % t.settings.z = 0 then u.turned ch edge taking virtual else u.scheduled taking

@[simp] theorem followEdge_trk (s : State) (ch : Channel) (target : LockState) (edge taking : Tick) (tprev ticks : Nat)
    (unsteady virtual : Bool) :
    (s.followEdge ch target edge taking tprev ticks unsteady virtual).trk =
      s.trk.set ch ((s.track ch).followed ch target edge taking tprev ticks unsteady virtual) := by
  rw [followEdge_eq]
  unfold Track.followed
  dsimp only
  split
  · rw [turnRevolution_trk, State.setTrack_trk, PerChannel.set_set, State.track_setTrack_self]
  · rw [startStrobes_trk, State.setTrack_trk, PerChannel.set_set, State.track_setTrack_self]

/-- A channel after its entry to LOCKED (R7). -/
def Track.lockedIn (t : Track) (ch : Channel) (edge taking : Tick) : Track :=
  ((t.lockedAt taking).opening ch edge t.settings.n false).scheduled taking

@[simp] theorem enterLocked_trk (s : State) (ch : Channel) (edge taking : Tick) :
    (s.enterLocked ch edge taking).trk = s.trk.set ch ((s.track ch).lockedIn ch edge taking) := by
  rw [enterLocked_eq]
  simp [State.track, Track.lockedIn]

/-- A channel in ACQUIRING after an edge that ends an interval (R6, R7). -/
def Track.acquired (t : Track) (ch : Channel) (ref edge taking : Tick) : Track :=
  let u := t.measured (intervalOf ref edge) edge
  if t.countAfter (intervalOf ref edge) ≥ 4 then u.lockedIn ch edge taking else u

@[simp] theorem acquireEdge_trk (s : State) (ch : Channel) (ref edge taking : Tick) :
    (s.acquireEdge ch ref edge taking).trk = s.trk.set ch ((s.track ch).acquired ch ref edge taking) := by
  rw [acquireEdge_eq]
  unfold Track.acquired
  dsimp only
  split
  · rw [enterLocked_trk, State.setTrack_trk, PerChannel.set_set, State.track_setTrack_self]
  · rfl

/-- A channel after an interval outside its window (R8, R20). -/
def Track.outOfPace (t : Track) (edge : Tick) (i : Nat) : Track := ((t.left .acquiring).paceLost edge i).settledNow

@[simp] theorem losePace_trk (s : State) (ch : Channel) (edge : Tick) (i : Nat) :
    (s.losePace ch edge i).trk = s.trk.set ch ((s.track ch).outOfPace edge i) := by
  rw [losePace_eq]
  have raised (t : State) (a : Alert) : (if ch = .tg then t.raise a else t).trk = t.trk := by split <;> rfl
  simp [State.track, raised, Track.outOfPace]

/-- A channel in LOCKED after a counted edge that ends an interval (R8). -/
def Track.lockedEdge (t : Track) (ch : Channel) (ref edge taking : Tick) : Track :=
  let i := intervalOf ref edge
  if t.settings.inWindow i then t.followed ch .locked edge taking i i (!steadyAfter i t.tprev) false else t.outOfPace edge i

@[simp] theorem lockedEdge_trk (s : State) (ch : Channel) (ref edge taking : Tick) :
    (s.lockedEdge ch ref edge taking).trk = s.trk.set ch ((s.track ch).lockedEdge ch ref edge taking) := by
  unfold State.lockedEdge Track.lockedEdge
  dsimp only
  split
  · exact followEdge_trk ..
  · exact losePace_trk ..

/-- A channel after a counted edge (R6, R8, R10, R11). -/
def Track.edged (t : Track) (ch : Channel) (edge taking : Tick) : Track :=
  match t.lock, t.ref with
  | .off, _ => t
  | .acquiring, some ref => t.acquired ch ref edge taking
  | .acquiring, none => { t with ref := some edge }
  | .locked, some ref => t.lockedEdge ch ref edge taking
  | .locked, none => { t with ref := some edge }
  | .holdover, _ => t.followed ch .locked edge taking (t.tprev.getD 0) (t.tprev.getD 0) false false
  | .stalled, _ => { t with lock := .acquiring, c := 0, ref := some edge }

@[simp] theorem takeEdge_trk (s : State) (ch : Channel) (edge taking : Tick) :
    (s.takeEdge ch edge taking).trk = s.trk.set ch ((s.track ch).edged ch edge taking) := by
  unfold State.takeEdge
  dsimp only
  split
  next off =>
    rw [show (s.track ch).edged ch edge taking = s.track ch by simp [Track.edged, off]]
    exact (PerChannel.set_get_self ..).symm
  next ref lock held => simp [Track.edged, lock, held]
  next lock held => simp [Track.edged, lock, held]
  next ref lock held => simp [Track.edged, lock, held]
  next lock held => simp [Track.edged, lock, held]
  next lock => simp [Track.edged, lock]
  next lock => simp [Track.edged, lock]

@[simp] theorem confirmEdge_trk (s : State) (ch : Channel) (x : Transition) :
    (s.confirmEdge ch x).trk = s.trk.set ch (({ s.track ch with transition := none } : Track).edged ch x.seenAt s.now) := by
  unfold State.confirmEdge
  rw [takeEdge_trk, State.setTrack_trk, PerChannel.set_set, State.track_setTrack_self]

/-- A channel after a stall (R10, R11, R20). -/
def Track.stalledOut (t : Track) : Track := (t.left .stalled).stalledNow.settledNow

@[simp] theorem stall_trk (s : State) (ch : Channel) : (s.stall ch).trk = s.trk.set ch (s.track ch).stalledOut := by
  rw [stall_eq]
  simp [State.track, Track.stalledOut]

end Sys2Proof.Machine
end

section
set_option Elab.async false
/-! The checks of the requests that carry settings say what the rules say: each is its `InRange`, and the scan table's walk finds a
list exactly where the table holds a well-formed one. -/

namespace Sys2Proof.Machine

/-! ### Settings -/

theorem allowed_iff (t : TrackSettings) (ch : Channel) : t.allowed ch = true ↔ t.InRange ch := by
  simp only [TrackSettings.allowed, TrackSettings.InRange, Bool.and_eq_true, Bool.or_eq_true, decide_eq_true_eq]
  simp only [max32, max16]
  tauto

theorem iceFieldsValid_iff (f : IceFields) (va : Fin 6) :
    iceFieldsValid f = true
      ↔ (⟨f.tice, f.hice, f.powerMargin, f.imbalanceMargin, f.period, f.tConfirm, f.tThaw, va⟩ : IceSettings).InRange := by
  simp only [iceFieldsValid, IceSettings.InRange, Bool.and_eq_true, decide_eq_true_eq]
  simp only [max16]
  tauto

theorem ascending_iff (l : List Nat) : ascending l = true ↔ l.Pairwise (· < ·) := by
  rw [← List.isChain_iff_pairwise]
  induction l with
  | nil => simp [ascending]
  | cons a rest ih =>
    cases rest with
    | nil => simp [ascending]
    | cons b rest => simp [ascending, ih, List.isChain_cons_cons]

theorem curveFieldsValid_iff (points : List CurvePoint) : curveFieldsValid points = true ↔ CurveInRange points := by
  simp only [curveFieldsValid, CurveInRange, Bool.and_eq_true, decide_eq_true_eq, List.all_eq_true, ascending_iff,
    List.pairwise_map]
  tauto

theorem gridFieldsValid_iff (f : GridFields) :
    gridFieldsValid f = true
      ↔ (∀ l ∈ f.limits.list, l ≤ 9999) ∧ f.voltageThd ≤ 9999 ∧ f.currentThd ≤ 9999 ∧ f.kp ≤ 65535 := by
  simp only [gridFieldsValid, Bool.and_eq_true, decide_eq_true_eq, List.all_eq_true]
  simp only [max16]
  tauto

theorem regimeFieldsValid_iff (f : RegimeFields) :
    regimeFieldsValid f = true
      ↔ (∀ b ∈ f.breakpoints.list, b ≤ 32767) ∧ f.breakpoints.list.Pairwise (· < ·) ∧ ∀ m ∈ f.map.list, m ≤ 7 := by
  simp only [regimeFieldsValid, Bool.and_eq_true, decide_eq_true_eq, List.all_eq_true, ascending_iff]
  tauto

/-- What holds of every entry of a table holds at every index, and the other way round. -/
theorem Tab.forall_mem_iff {α : Type} {n : Nat} (t : Tab n α) (P : α → Prop) : (∀ x ∈ t.list, P x) ↔ ∀ i, P (t.get i) := by
  constructor
  · exact fun h i => h _ (List.getElem_mem _)
  · intro h x hx
    obtain ⟨k, hk, rfl⟩ := List.getElem_of_mem hx
    exact h ⟨k, t.len ▸ hk⟩

theorem profileFieldsValid_iff (f : ProfileFields) :
    profileFieldsValid f = true ↔ (⟨f.levels, f.persistence⟩ : Row).InRange := by
  simp only [profileFieldsValid, Row.InRange, Bool.and_eq_true, Bool.or_eq_true, decide_eq_true_eq, List.all_eq_true, beq_iff_eq,
    and_assoc, or_assoc, ← Tab.forall_mem_iff f.levels fun p => p.warn ≤ 65535 ∧ p.alarm ≤ 65535
      ∧ (p.warn = 0 ∨ p.alarm = 0 ∨ p.warn < p.alarm)]
  rfl

/-- The entries of a table that are not 0 differ exactly when no two indices hold the same one. -/
theorem nodup_filter_ne_zero_iff {n : Nat} (t : Tab n Nat) :
    (t.list.filter (· ≠ 0)).Nodup ↔ ∀ i j, t.get i = t.get j → i = j ∨ t.get i = 0 := by
  rw [List.Nodup, List.pairwise_filter, List.pairwise_iff_getElem]
  constructor
  · intro h i j same
    by_contra! differ
    obtain ⟨index, nonzero⟩ := differ
    have bound (k : Fin n) : k.val < t.list.length := by rw [t.len]; exact k.isLt
    rcases Nat.lt_or_gt_of_ne (fun e => index (Fin.ext e)) with lt | gt
    · exact h i.val j.val (bound i) (bound j) lt (by simpa [Tab.get] using nonzero)
        (by simpa [Tab.get] using fun zero => nonzero (same.trans zero)) same
    · exact h j.val i.val (bound j) (bound i) gt (by simpa [Tab.get] using fun zero => nonzero (same.trans zero))
        (by simpa [Tab.get] using nonzero) same.symm
  · intro h i j hi hj lt nonzero _ same
    rcases h ⟨i, t.len ▸ hi⟩ ⟨j, t.len ▸ hj⟩ same with index | zero
    · exact absurd (congrArg Fin.val index) (Nat.ne_of_lt lt)
    · exact absurd zero (by simpa [Tab.get] using nonzero)

theorem inputFieldsValid_iff (f : InputFields) :
    inputFieldsValid f = true ↔ (⟨f.k, f.orders⟩ : InputSettings).InRange := by
  simp only [inputFieldsValid, InputSettings.InRange, Bool.and_eq_true, decide_eq_true_eq, List.all_eq_true,
    nodup_filter_ne_zero_iff, Tab.forall_mem_iff f.orders fun x => x ≤ 127, and_assoc]

/-! ### The scan table -/

/-- From the front of `d`, `w` is a list of entries up to the first stop mark, of at most eight with `taken` before it (R26). -/
def EndsWithin (taken : Nat) (d : List ScanEntry) (w : List (Option Input)) : Prop :=
  1 ≤ w.length ∧ taken + w.length ≤ 8
    ∧ ∀ k < w.length, (d[k]?).map ScanEntry.input = w[k]? ∧ (d[k]?).map ScanEntry.stop = some (decide (k + 1 = w.length))

theorem endsWithin_nil (taken : Nat) (w : List (Option Input)) : ¬EndsWithin taken [] w := by
  rintro ⟨some, -, entries⟩
  have := (entries 0 some).2
  simp at this

theorem endsWithin_stop {taken : Nat} {e : ScanEntry} (stop : e.stop = true) (rest : List ScanEntry) (room : taken < 8)
    (w : List (Option Input)) : EndsWithin taken (e :: rest) w ↔ w = [e.input] := by
  constructor
  · rintro ⟨some, -, entries⟩
    obtain ⟨input, last⟩ := entries 0 some
    have single : 1 = w.length := by simpa [stop] using last
    obtain ⟨x, rfl⟩ := List.length_eq_one_iff.1 single.symm
    simpa using input.symm
  · rintro rfl
    refine ⟨by simp, by simpa using room, fun k below => ?_⟩
    obtain rfl : k = 0 := by simpa using below
    simp [stop]

theorem endsWithin_go {taken : Nat} {e : ScanEntry} (go : e.stop = false) (rest : List ScanEntry) (w : List (Option Input)) :
    EndsWithin taken (e :: rest) w ↔ ∃ v, w = e.input :: v ∧ EndsWithin (taken + 1) rest v := by
  constructor
  · rintro ⟨some, room, entries⟩
    obtain ⟨input, more⟩ := entries 0 some
    match w, some, room, entries, input, more with
    | x :: v, some, room, entries, input, more =>
      have left : v ≠ [] := by rintro rfl; simp [go] at more
      refine ⟨v, by simpa using input.symm, List.length_pos_of_ne_nil left, by simpa [Nat.add_assoc, Nat.add_comm 1] using room,
        fun k below => ?_⟩
      simpa using entries (k + 1) (by simpa using below)
  · rintro ⟨v, rfl, some, room, entries⟩
    refine ⟨by simp, by simp only [List.length_cons]; omega, fun k below => ?_⟩
    cases k with
    | zero =>
      have left : v ≠ [] := List.length_pos_iff.1 some
      simpa [go] using left
    | succ k => simpa using entries k (by simpa using below)

theorem walkList_iff (d : List ScanEntry) (taken : Nat) (room : taken < 8) (w : List (Option Input)) :
    walkList taken d = some w ↔ EndsWithin taken d w := by
  induction d generalizing taken w with
  | nil => simp [walkList, endsWithin_nil]
  | cons e rest ih =>
    unfold walkList
    cases stop : e.stop with
    | true => simp [endsWithin_stop stop rest room, eq_comm]
    | false =>
      rw [endsWithin_go stop]
      by_cases full : taken + 1 = 8
      · have none : ¬∃ v, w = e.input :: v ∧ EndsWithin (taken + 1) rest v := by
          rintro ⟨v, -, some, more, -⟩
          omega
        simpa [full] using none
      · simp only [Bool.false_eq_true, if_false, if_neg full, Option.map_eq_some_iff, ih (taken + 1) (by omega)]
        exact exists_congr fun v => by rw [and_comm, eq_comm]

theorem listFrom_of_walk {d : List ScanEntry} {taken : Nat} {w : List (Option Input)} (h : walkList taken d = some w) :
    listFrom d = w.reduceOption := by
  induction d generalizing taken w with
  | nil => exact absurd h nofun
  | cons e rest ih =>
    unfold walkList at h
    cases stop : e.stop with
    | true =>
      obtain rfl : [e.input] = w := by simpa [stop] using h
      cases input : e.input <;> simp [listFrom, stop, input, List.reduceOption]
    | false =>
      by_cases full : taken + 1 = 8
      · simp [stop, full] at h
      · obtain ⟨v, walked, rfl⟩ : ∃ v, walkList (taken + 1) rest = some v ∧ e.input :: v = w := by
          simpa [stop, full, Option.map_eq_some_iff] using h
        cases input : e.input <;> simp [listFrom, stop, input, ih walked, List.reduceOption]

theorem kindAllowed_iff (ch : Channel) (i : Input) : kindAllowed ch i = true ↔ (ch = .tg ↔ ∀ va, i ≠ .va va) := by
  cases ch <;> cases i <;> simp [kindAllowed]

/-- Every entry of a walked list is an input of its channel's kind. -/
theorem all_kindAllowed_iff (ch : Channel) (w : List (Option Input)) :
    (w.all fun e => match e with | some i => kindAllowed ch i | none => false) = true
      ↔ ∃ l : List Input, w = l.map some ∧ ∀ i ∈ l, (ch = .tg ↔ ∀ va, i ≠ .va va) := by
  induction w with
  | nil => exact ⟨fun _ => ⟨[], rfl, nofun⟩, fun _ => rfl⟩
  | cons e w ih =>
    rw [List.all_cons, Bool.and_eq_true, ih]
    constructor
    · rintro ⟨here, l, rfl, kinds⟩
      match e, here with
      | some i, here =>
        refine ⟨i :: l, rfl, fun j hj => ?_⟩
        rcases List.mem_cons.1 hj with rfl | later
        · exact (kindAllowed_iff ch j).1 here
        · exact kinds j later
    · rintro ⟨l, eq, kinds⟩
      match l, eq with
      | i :: l, eq =>
        obtain ⟨rfl, rfl⟩ := List.cons.inj eq
        exact ⟨(kindAllowed_iff ch i).2 (kinds i (by simp)), l, rfl, fun j hj => kinds j (List.mem_cons_of_mem i hj)⟩

theorem reduceOption_map_some (l : List Input) : (l.map some).reduceOption = l := by
  induction l with
  | nil => rfl
  | cons i l ih => simp [List.reduceOption] at ih ⊢

theorem list_of_start {t : ScanTable} {ch : Channel} {start : Fin 24} (at' : t.starts.get ch = some start) :
    t.list ch = listFrom (t.entries.list.drop start.val) := by
  simp [ScanTable.list, at']

theorem list_of_no_start {t : ScanTable} {ch : Channel} (at' : t.starts.get ch = none) : t.list ch = [] := by
  simp [ScanTable.list, at']

/-- A table lists `l` for a channel exactly when its check succeeds and `l` is the channel's list (R24, R26). -/
theorem lists_iff (t : ScanTable) (ch : Channel) (l : List Input) :
    t.Lists ch l ↔ t.listValid ch = true ∧ l = t.list ch := by
  cases at' : t.starts.get ch with
  | none =>
    rw [list_of_no_start at']
    simp only [ScanTable.Lists, ScanTable.listValid, at']
    constructor
    · rintro ⟨empty, -, -⟩
      exact ⟨trivial, empty trivial⟩
    · rintro ⟨-, rfl⟩
      exact ⟨fun _ => rfl, nofun, nofun⟩
  | some start =>
    have ends : (1 ≤ l.length ∧ l.length ≤ 8
        ∧ ∀ k < l.length,
            (t.entries.list[start.val + k]?).map ScanEntry.input = some l[k]?
              ∧ (t.entries.list[start.val + k]?).map ScanEntry.stop = some (decide (k + 1 = l.length)))
        ↔ walkList 0 (t.entries.list.drop start.val) = some (l.map some) := by
      rw [walkList_iff _ 0 (by decide)]
      simp only [EndsWithin, List.length_map, List.getElem?_drop, Nat.zero_add, List.getElem?_map]
      refine and_congr_right fun _ => and_congr_right fun _ => forall₂_congr fun k below => and_congr_left fun _ => ?_
      rw [List.getElem?_eq_getElem below]
      rfl
    rw [list_of_start at']
    simp only [ScanTable.Lists, ScanTable.listValid, at', reduceCtorEq, false_implies, true_and, Option.mem_def,
      Option.some.injEq, forall_eq', ends]
    constructor
    · rintro ⟨walked, kinds⟩
      rw [walked, listFrom_of_walk walked, reduceOption_map_some]
      exact ⟨(all_kindAllowed_iff ch _).2 ⟨l, rfl, kinds⟩, rfl⟩
    · rintro ⟨valid, rfl⟩
      cases walked : walkList 0 (t.entries.list.drop start.val) with
      | none => simp [walked] at valid
      | some w =>
        rw [walked] at valid
        obtain ⟨l, rfl, kinds⟩ := (all_kindAllowed_iff ch w).1 valid
        rw [listFrom_of_walk walked, reduceOption_map_some]
        exact ⟨rfl, kinds⟩

theorem listValid_iff (t : ScanTable) (ch : Channel) : t.listValid ch = true ↔ t.Lists ch (t.list ch) := by
  simp [lists_iff]

/-- The checks of SET_SCAN on a table that names inputs and entries (R26, R27). -/
theorem table_valid_iff (t : ScanTable) :
    t.Valid ↔ (t.listValid .tl ∧ t.listValid .th ∧ t.listValid .tg) ∧ t.disjoint = true := by
  simp only [ScanTable.Valid, ← listValid_iff, ScanTable.disjoint, decide_eq_true_eq]
  simp

end Sys2Proof.Machine
end

section
set_option Elab.async false
/-! The law of the regime and of the levels. -/

namespace Sys2Proof.Machine

/-! ### Leaving and entering lock -/

theorem park_regimeLaw {s : State} (idle : s.trk.tl.lock.following = false) : RegimeLaw s.park :=
  ⟨iff_of_true idle rfl, fun _ => rfl, fun _ => rfl, rfl⟩

theorem unpark_regimeLaw {s : State} (follows : s.trk.tl.lock.following = true) : RegimeLaw s.unpark :=
  ⟨iff_of_false (by simp [State.unpark, State.enterRegime, State.refreshActive, follows])
      (by simp [State.unpark, State.enterRegime, State.refreshActive]),
    fun _ => rfl, fun _ => rfl, rfl⟩

/-- Another channel than TL, or the same following of pulses: the law of the regime stands. -/
theorem setTrack_regimeLaw {s : State} {ch : Channel} {t : Track} (h : ch = .tl → t.lock.following = (s.track ch).lock.following)
    (law : RegimeLaw s) : RegimeLaw (s.setTrack ch t) := by
  cases ch with
  | tl => exact (setTrack_evolves_following s .tl t (h rfl) .regime (by decide)).2 law
  | th | tg => exact law

theorem setTrack_lockLost_regimeLaw {s : State} {ch : Channel} {t : Track} (idle : t.lock.following = false) (law : RegimeLaw s) :
    RegimeLaw ((s.setTrack ch t).lockLost ch) := by
  cases ch with
  | tl => exact park_regimeLaw idle
  | th => exact law
  | tg => exact law

theorem setTrack_lockGained_regimeLaw {s : State} {ch : Channel} {t : Track} (z : Nat) (follows : t.lock.following = true)
    (law : RegimeLaw s) : RegimeLaw (((s.setTrack ch t).clearedForLock ch z).lockGained ch) := by
  cases ch with
  | tl => exact unpark_regimeLaw (by rw [clearedForLock_trk]; exact follows)
  | th => exact (clearedForLock_evolves (s.setTrack .th t) .th z .regime (by decide)).2 law
  | tg => exact (clearedForLock_evolves (s.setTrack .tg t) .tg z .regime (by decide)).2 law

theorem leaveLock_regimeLaw {s : State} (ch : Channel) {target : LockState} (idle : target.following = false) (law : RegimeLaw s) :
    RegimeLaw (s.leaveLock ch target) := by
  unfold State.leaveLock
  exact setTrack_lockLost_regimeLaw idle ((discardRevolution_evolves s ch .regime (by decide)).2 law)

/-! ### Edges -/

theorem Evolves.regimeLaw {s t : State} (h : Evolves [.trk, .gathering] s t) (law : RegimeLaw s) : RegimeLaw t := (h .regime (by decide)).2 law

theorem applyEffect_regimeLaw {s : State} (ch : Channel) (old new : TrackSettings) (law : RegimeLaw s) :
    RegimeLaw (s.applyEffect ch old new) := by
  unfold State.applyEffect
  dsimp only
  split
  · refine setTrack_regimeLaw (fun _ => ?_) (leaveLock_regimeLaw ch rfl law)
    rw [leaveLock_track]
    rfl
  · split
    · refine setTrack_regimeLaw (fun _ => ?_) (leaveLock_regimeLaw ch rfl law)
      rw [leaveLock_track]
      rfl
    · exact law

theorem applyStagedAtClose_regimeLaw {s : State} (ch : Channel) (law : RegimeLaw s) : RegimeLaw (s.applyStagedAtClose ch) := by
  unfold State.applyStagedAtClose
  split
  next new _ =>
    have applied : RegimeLaw ((s.setTrack ch ((s.track ch).withSettings new)).applyEffect ch (s.track ch).settings new) :=
      applyEffect_regimeLaw ch _ new (setTrack_regimeLaw (fun _ => rfl) law)
    dsimp only
    split
    · exact (clearList_evolves _ ch).mono.regimeLaw applied
    · exact applied
  · exact law

theorem turnRevolution_regimeLaw {s : State} (ch : Channel) (edge taking : Tick) (virtual : Bool) (law : RegimeLaw s) :
    RegimeLaw (s.turnRevolution ch edge taking virtual) := by
  unfold State.turnRevolution
  dsimp only
  split
  · refine (scheduleStrobes_evolves _ ch taking).regimeLaw (applyStagedAtClose_regimeLaw ch ?_)
    exact ((((openRevolution_evolves s ch _ _ _).trans (takeStrobe_evolves _ ch 0).mono).trans
      (closeRevolution_evolves _ ch _ edge)).trans (freshBuffers_evolves _ ch).mono).regimeLaw law
  · exact ((((openRevolution_evolves s ch _ _ _).trans (freshBuffers_evolves _ ch).mono).trans
      (takeStrobe_evolves _ ch 0).mono).trans (scheduleStrobes_evolves _ ch taking)).regimeLaw law

theorem followEdge_regimeLaw {s : State} {ch : Channel} {target : LockState} (follows : (s.track ch).lock.following = true)
    (goes : target.following = true) (edge taking : Tick) (tprev ticks : Nat) (unsteady virtual : Bool) (law : RegimeLaw s) :
    RegimeLaw (s.followEdge ch target edge taking tprev ticks unsteady virtual) := by
  rw [followEdge_eq]
  have pulled : RegimeLaw (s.setTrack ch ((s.track ch).pulled target edge taking tprev ticks unsteady virtual)) :=
    setTrack_regimeLaw (fun _ => goes.trans follows.symm) law
  dsimp only
  split
  · exact turnRevolution_regimeLaw ch edge taking virtual pulled
  · exact (startStrobes_evolves _ ch taking).regimeLaw pulled

theorem acquireEdge_regimeLaw {s : State} (ch : Channel) (ref edge taking : Tick) (law : RegimeLaw s) :
    RegimeLaw (s.acquireEdge ch ref edge taking) := by
  rw [acquireEdge_eq]
  have measured : RegimeLaw (s.setTrack ch ((s.track ch).measured (intervalOf ref edge) edge)) :=
    setTrack_regimeLaw (fun _ => rfl) law
  dsimp only
  split
  · rw [enterLocked_eq]
    exact (((openRevolution_evolves _ ch edge _ false).trans (freshBuffers_evolves _ ch).mono).trans
      (startStrobes_evolves _ ch taking)).regimeLaw (setTrack_lockGained_regimeLaw _ rfl measured)
  · exact measured

theorem losePace_regimeLaw {s : State} (ch : Channel) (edge : Tick) (i : Nat) (law : RegimeLaw s) :
    RegimeLaw (s.losePace ch edge i) := by
  rw [losePace_eq]
  have lost : RegimeLaw ((s.leaveLock ch .acquiring).setTrack ch (((s.leaveLock ch .acquiring).track ch).paceLost edge i)) :=
    setTrack_regimeLaw (fun _ => rfl) (leaveLock_regimeLaw ch rfl law)
  refine (applyStagedNow_evolves _ ch).regimeLaw ?_
  split
  · exact (raise_evolves _ _).mono.regimeLaw lost
  · exact lost

theorem takeEdge_regimeLaw {s : State} (ch : Channel) (edge taking : Tick) (law : RegimeLaw s) :
    RegimeLaw (s.takeEdge ch edge taking) := by
  unfold State.takeEdge
  dsimp only
  split
  · exact law
  · exact acquireEdge_regimeLaw ch _ edge taking law
  · exact setTrack_regimeLaw (fun _ => rfl) law
  next lock _ =>
    unfold State.lockedEdge
    dsimp only
    split
    · exact followEdge_regimeLaw (by rw [lock]; rfl) rfl _ _ _ _ _ _ law
    · exact losePace_regimeLaw ch edge _ law
  · exact setTrack_regimeLaw (fun _ => rfl) law
  next lock => exact followEdge_regimeLaw (by rw [lock]; rfl) rfl _ _ _ _ _ _ law
  next lock => exact setTrack_regimeLaw (fun _ => by rw [lock]; rfl) law

theorem stall_regimeLaw {s : State} (ch : Channel) (law : RegimeLaw s) : RegimeLaw (s.stall ch) := by
  rw [stall_eq]
  have stalled : RegimeLaw ((s.leaveLock ch .stalled).setTrack ch ((s.leaveLock ch .stalled).track ch).stalledNow) :=
    setTrack_regimeLaw (fun _ => rfl) (leaveLock_regimeLaw ch rfl law)
  exact ((raise_evolves _ _).mono.trans (applyStagedNow_evolves _ ch)).regimeLaw stalled

theorem lineChanged_lock (t : Track) (high : Bool) (now : Tick) : (t.lineChanged high now).lock = t.lock := by
  unfold Track.lineChanged
  split <;> rfl

theorem pulse_regimeLaw {s : State} (ch : Channel) (high : Bool) (tick : Tick) (law : RegimeLaw s) :
    RegimeLaw (s.pulse ch high tick) := by
  unfold State.pulse
  split
  · exact setTrack_regimeLaw (fun _ => rfl) law
  · exact setTrack_regimeLaw (fun _ => rfl) law
  · exact setTrack_regimeLaw (fun _ => congrArg _ (lineChanged_lock ..)) law

/-! ### Start-up -/

theorem afterStartUp_following (line : Bool) (settings : TrackSettings) : (Track.afterStartUp line settings).lock.following = false := by
  unfold Track.afterStartUp
  dsimp only
  split <;> rfl

theorem loadedFrom_regimeLaw (s : State) (image : Image) : RegimeLaw (s.loadedFrom image) :=
  ⟨iff_of_true (afterStartUp_following ..) rfl, fun _ => rfl, fun _ => rfl, rfl⟩

theorem startUp_regimeLaw (s : State) : RegimeLaw s.startUp := by
  unfold State.startUp
  split
  · exact loadedFrom_regimeLaw ..
  · exact (raise_evolves _ storeDefaultsAlert).mono.regimeLaw (loadedFrom_regimeLaw ..)

theorem unpowered_regimeLaw (s : State) : RegimeLaw s.unpowered := ⟨iff_of_true rfl rfl, fun _ => rfl, fun _ => rfl, rfl⟩

theorem regimeLaw_kept {s t : State} {c : Instr} (h : Happens s c t) (law : RegimeLaw s) : RegimeLaw t := by
  refine h.keeps [.regime] (fun kept => (kept .regime (by simp)).2) (by decide) ?_ ?_ law
  · intro r free
    cases r <;> simp [freeIn] at free
  · intro free event law
    cases event with
    | powerOn => exact startUp_regimeLaw _
    | resetBegin tick running ready => exact startUp_regimeLaw _
    | powerLoss tick => exact unpowered_regimeLaw s
    | startupEnd tick starting => exact law
    | pulse ch high tick => exact pulse_regimeLaw ch high tick law
    | countedEdge ch x running held => exact takeEdge_regimeLaw ch _ _ (setTrack_regimeLaw (fun _ => rfl) law)
    | virtualEdge ch due running locked deadline =>
      exact followEdge_regimeLaw (s := s.advance due) (by rw [show (s.advance due).track ch = s.track ch from rfl, locked]; rfl) rfl
        _ _ _ _ _ _ law
    | holdoverDeadline ch due running holdover deadline => exact stall_regimeLaw ch law
    | _ => simp [ownFree] at free

/-! ### Levels -/

/-- The regime settings are in range and the levels fit them. -/
def LevelsFit (s : State) : Prop := s.rgc.settings.InRange ∧ IndicatorLaw s

theorem levelsFit_carried {s t : State} (h : ∀ a ∈ [Aspect.indicators], a.Kept s t) (fit : LevelsFit s) : LevelsFit t := by
  obtain ⟨settings, law⟩ := h .indicators (by simp)
  obtain ⟨inRange, lawful⟩ := fit
  exact ⟨settings ▸ inRange, law inRange lawful⟩

theorem regimeSet_inRange {f : RegimeFields} {t : RegimeSettings} (valid : regimeFieldsValid f = true) (inRange : t.InRange) :
    ({ t with breakpoints := f.breakpoints, map := f.map.map mapEntry } : RegimeSettings).InRange := by
  obtain ⟨bounded, rising, -⟩ := (regimeFieldsValid_iff f).1 valid
  exact ⟨bounded, rising, inRange.2.2⟩

theorem rowWritten_inRange {t : RegimeSettings} {row : Row} (profile : Fin 8) (va : Fin 6) (fits : row.InRange) (inRange : t.InRange) :
    ({ t with profiles := t.profiles.set profile ((t.profiles.get profile).set va row) } : RegimeSettings).InRange := by
  obtain ⟨bounded, rising, rows⟩ := inRange
  refine ⟨bounded, rising, fun p v => ?_⟩
  change ((Tab.get (t.profiles.set profile _) p).get v).InRange
  rw [Tab.get_set]
  split
  next same =>
    subst same
    rw [Tab.get_set]
    split
    · exact fits
    · exact rows profile v
  next => exact rows p v

theorem serveSetRegime_levelsFit (f : RegimeFields) {s : State} (fit : LevelsFit s) : LevelsFit (serveSetRegime f s).1 := by
  obtain ⟨inRange, lawful⟩ := fit
  rw [serveSetRegime_eq]
  split
  next valid =>
    have inRange' := regimeSet_inRange valid inRange
    refine ⟨inRange', fun va => ?_⟩
    have ind : (s.regimeSet f).ind.get va = if (f.map.map mapEntry).get s.rgc.regime = s.rgc.active then s.ind.get va
        else (s.ind.get va).zeroed := by
      simp only [State.regimeSet, State.refreshActive]
      split <;> simp
    have active : (s.regimeSet f).rgc.active = (f.map.map mapEntry).get s.rgc.regime := rfl
    change Ind.Lawful ((s.regimeSet f).ind.get va) ((s.regimeSet f).row (s.regimeSet f).rgc.active va).persistence
    rw [ind, active]
    split
    next same => rw [same]; exact lawful va
    next => exact zeroed_lawful (lawful va) (inRange'.2.2 _ va).1
  next => exact ⟨inRange, lawful⟩

theorem writeRow_row (s : State) (profile p : Fin 8) (va v : Fin 6) (row : Row) :
    (s.writeRow profile va row).row p v = if p = profile ∧ v = va then row else s.row p v := by
  change ((Tab.get (s.rgc.settings.profiles.set profile _) p).get v) = _
  rw [Tab.get_set]
  by_cases same : profile = p
  · subst same
    rw [if_pos rfl, Tab.get_set]
    by_cases input : va = v
    · simp [input]
    · simp [input, Ne.symm input, State.row]
  · simp [same, Ne.symm same, State.row]

theorem writeRow_ind (s : State) (profile : Fin 8) (va v : Fin 6) (row : Row) :
    (s.writeRow profile va row).ind.get v = if profile = s.rgc.active ∧ v = va then (s.ind.get v).zeroed else s.ind.get v := by
  simp only [State.writeRow]
  by_cases active : profile = s.rgc.active
  · rw [if_pos active, Tab.get_set]
    by_cases input : va = v
    · subst input; simp [active]
    · simp [input, Ne.symm input]
  · simp [active]

theorem serveSetProfile_levelsFit (f : ProfileFields) {s : State} (fit : LevelsFit s) : LevelsFit (serveSetProfile f s).1 := by
  obtain ⟨inRange, lawful⟩ := fit
  unfold serveSetProfile
  split
  next profile va _ _ =>
    split
    next valid =>
      have fits := (profileFieldsValid_iff f).1 valid
      have inRange' := rowWritten_inRange profile va fits inRange
      refine ⟨inRange', fun v => ?_⟩
      change Ind.Lawful ((s.writeRow profile va ⟨f.levels, f.persistence⟩).ind.get v)
        ((s.writeRow profile va ⟨f.levels, f.persistence⟩).row s.rgc.active v).persistence
      rw [writeRow_ind, writeRow_row]
      by_cases written : profile = s.rgc.active ∧ v = va
      · rw [if_pos written, if_pos ⟨written.1.symm, written.2⟩]
        exact zeroed_lawful (lawful v) fits.1
      · rw [if_neg written, if_neg fun h => written ⟨h.1.symm, h.2⟩]
        exact lawful v
    next => exact ⟨inRange, lawful⟩
  next => exact ⟨inRange, lawful⟩

theorem afterStartUp_ind_lawful {p : Nat} (positive : 1 ≤ p) : Ind.afterStartUp.Lawful p := by
  refine ⟨fun j => ?_, fun _ => rfl, Nat.zero_le _⟩
  simp only [Ind.afterStartUp, Tab.get_replicate]
  omega

theorem levelsFit_of_started {s : State} (ind : s.ind = Tab.replicate 6 Ind.afterStartUp) (inRange : s.rgc.settings.InRange) :
    LevelsFit s := by
  refine ⟨inRange, fun va => ?_⟩
  change Ind.Lawful (s.ind.get va) (s.row s.rgc.active va).persistence
  rw [ind, Tab.get_replicate]
  exact afterStartUp_ind_lawful (inRange.2.2 _ va).1

/-- What start-up loads from a store that holds only good images is good. -/
theorem startUp_loads {P : Image → Prop} {s : State} (stored : ∀ image, s.sst.image = .valid image → P image)
    (defaults : P Image.defaults) :
    ∃ image, P image ∧ (s.startUp = s.loadedFrom image ∨ s.startUp = (s.loadedFrom image).raise storeDefaultsAlert) := by
  unfold State.startUp
  split
  next image usable =>
    refine ⟨image, stored image ?_, .inl rfl⟩
    unfold StoredImage.usable at usable
    split at usable
    · rename_i same; rw [same]; simpa using usable
    all_goals exact absurd usable nofun
  · exact ⟨_, defaults, .inr rfl⟩

/-- The store without supply holds no image that was not there. -/
theorem unpowered_stored {P : Image → Prop} {s : State} (stored : ∀ image, s.sst.image = .valid image → P image) :
    ∀ image, s.unpowered.sst.image = .valid image → P image := by
  intro image held
  change s.sst.cutShort = _ at held
  unfold Sst.cutShort at held
  split at held
  · exact absurd held nofun
  · exact stored image held

theorem defaults_regime_inRange : RegimeSettings.defaults.InRange := by
  refine ⟨by decide, by decide, fun p va => ?_⟩
  revert p va
  decide

theorem startUp_levelsFit {s : State} (stored : ∀ image, s.sst.image = .valid image → image.regime.InRange) :
    LevelsFit s.startUp := by
  obtain ⟨image, inRange, loaded | loaded⟩ := startUp_loads (P := fun image => image.regime.InRange) stored defaults_regime_inRange
  · rw [loaded]; exact levelsFit_of_started rfl inRange
  · rw [loaded]; exact levelsFit_of_started rfl inRange

theorem levelsFit_kept {s t : State} {c : Instr} (h : Happens s c t)
    (stored : ∀ image, s.sst.image = .valid image → image.regime.InRange) (fit : LevelsFit s) : LevelsFit t := by
  refine h.keeps [.indicators] levelsFit_carried (by decide) ?_ ?_ fit
  · intro r free u running fit
    cases r with
    | setRegime f => exact serveSetRegime_levelsFit f fit
    | setProfile f => exact serveSetProfile_levelsFit f fit
    | _ => simp [freeIn] at free
  · intro free event fit
    cases event with
    | powerOn => exact startUp_levelsFit (unpowered_stored stored)
    | resetBegin tick running ready => exact startUp_levelsFit (s := s.advance tick) stored
    | powerLoss tick => exact levelsFit_of_started rfl defaults_regime_inRange
    | startupEnd tick starting => exact fit
    | _ => simp [ownFree] at free

/-- Settles O5: TL's lock and the regime move in the same operations, power becomes unknown together with the candidate, and the
active profile is entered again whenever the regime or the map moves, with the counters at 0 where it differs. -/
theorem regimeLawKept : Obligations.RegimeLawKept := by
  intro s t h
  refine ⟨fun law => step_keeps (fun _ _ law => law) (fun _ _ _ => regimeLaw_kept) s t law h, fun settings law => ?_⟩
  obtain ⟨⟨-, -, -, -, -, -, regime, -, -⟩, ⟨stored, -⟩, -, -⟩ := settings
  have good : ∀ image, s.sst.image = .valid image → image.regime.InRange := fun image held => by
    obtain ⟨-, -, -, -, -, -, inRange, -, -⟩ := stored image held
    exact inRange
  have fit : LevelsFit s := ⟨regime, law⟩
  unfold step at h
  split at h
  · cases h; exact law
  · exact (levelsFit_kept (exec_happens h) good fit).2

end Sys2Proof.Machine
end

section
set_option Elab.async false
/-! What the store holds after a command: an image from before, or a copy of the contents as the command leaves them, but for what
icing learns afterwards. -/

namespace Sys2Proof.Machine

/-- The same image but for the baseline and the icing state. -/
def Image.SameBut (a b : Image) : Prop :=
  a = { b with baseline := a.baseline, learnedCount := a.learnedCount, icing := a.icing }

/-- A property of images that does not read the baseline and the icing state. -/
def IgnoresIcing (P : Image → Prop) : Prop := ∀ a b : Image, a.SameBut b → P b → P a

/-- From `s` to `t` the store keeps its image, and the write in flight, behind which one may become pending, or begins one with a
copy of the contents of `t`. -/
def Writes (s t : State) : Prop :=
  t.sst.image = s.sst.image
    ∧ ((t.sst.inFlight = s.sst.inFlight
          ∧ (t.sst.pendingWrite = s.sst.pendingWrite ∨ (s.sst.inFlight.isSome = true ∧ t.sst.pendingWrite = true)))
        ∨ (s.sst.inFlight = none ∧ t.sst.pendingWrite = s.sst.pendingWrite
          ∧ ∃ w, t.sst.inFlight = some w ∧ w.copy.SameBut t.contents))

theorem Writes.holds {s t : State} (h : Writes s t) {P : Image → Prop} (ignores : IgnoresIcing P) (now : P t.contents)
    (held : s.sst.Holds P) : t.sst.Holds P := by
  obtain ⟨image, flight⟩ := h
  obtain ⟨good, flying⟩ := held
  refine ⟨fun i hi => good i (image ▸ hi), fun w hw => ?_⟩
  rcases flight with ⟨same, -⟩ | ⟨-, -, v, hv, copy⟩
  · exact flying w (same ▸ hw)
  · obtain rfl : v = w := Option.some.inj (hv.symm.trans hw)
    exact ignores _ _ copy now

theorem Writes.of_same {s t : State} (h : t.sst = s.sst) : Writes s t := ⟨by rw [h], .inl ⟨by rw [h], .inl (by rw [h])⟩⟩

theorem requestWrite_writes {s u : State} (image : u.sst.image = s.sst.image) (flight : u.sst.inFlight = s.sst.inFlight)
    (pending : u.sst.pendingWrite = s.sst.pendingWrite) : Writes s u.requestWrite := by
  cases idle : u.sst.inFlight with
  | none =>
    rw [Writes, State.requestWrite_sst, requested_idle _ _ _ idle]
    exact ⟨image, .inr ⟨flight ▸ idle, pending, _, rfl, rfl⟩⟩
  | some w =>
    rw [Writes, State.requestWrite_sst, requested_running _ _ _ (by simp [idle])]
    exact ⟨image, .inl ⟨flight, .inr ⟨by rw [← flight, idle]; rfl, rfl⟩⟩⟩

/-- A change of the icing monitor alone, its settings standing, after a write may have begun. -/
theorem Writes.then_icm {s t u : State} (h : Writes s t) (changes : Changes [.icm] t u) (settings : u.icm.settings = t.icm.settings)
    (curve : u.icm.curve = t.icm.curve) : Writes s u := by
  have sst : u.sst = t.sst := changes .sst (by decide)
  have contents : t.contents.SameBut u.contents := by
    have trk : u.trk = t.trk := changes .trk (by decide)
    have acq : u.acq = t.acq := changes .acq (by decide)
    have sav : u.sav = t.sav := changes .sav (by decide)
    have gra : u.gra = t.gra := changes .gra (by decide)
    have rgc : u.rgc = t.rgc := changes .rgc (by decide)
    have msc : u.msc = t.msc := changes .msc (by decide)
    simp only [Image.SameBut, State.contents, trk, acq, sav, gra, rgc, msc, settings, curve]
  obtain ⟨image, flight⟩ := h
  refine ⟨sst ▸ image, flight.imp (sst ▸ ·) fun ⟨idle, pending, w, hw, copy⟩ => ⟨idle, sst ▸ pending, w, sst ▸ hw, ?_⟩⟩
  unfold Image.SameBut at *
  rw [copy, contents]

theorem icing_requestWrite_writes {s u : State} (h : Evolves [.icing] s u) : Writes s u.requestWrite := by
  have sst : u.sst = s.sst := h .sst (by decide)
  exact requestWrite_writes (by rw [sst]) (by rw [sst]) (by rw [sst])

theorem Evolves.writes {s t : State} (h : Evolves [.icing] s t) : Writes s t := .of_same (h .sst (by decide))

theorem moveIcing_writes (s : State) (cold deficit imbalance : Option Bool) : Writes s (s.moveIcing cold deficit imbalance) := by
  unfold State.moveIcing
  split
  · split
    · exact (enterUntimed_evolves s _).writes
    · exact .of_same rfl
  · exact (evaluateWatch_evolves s _ _ _).writes
  · unfold State.evaluateSuspect
    split
    · split
      · exact icing_requestWrite_writes (icedEvent_evolves s)
      · exact .of_same rfl
    · split
      · exact .of_same rfl
      · exact .of_same rfl
    · exact .of_same rfl
  · exact (evaluateIced_evolves s).writes
  · unfold State.evaluateThaw
    split
    · split
      · exact icing_requestWrite_writes (enterReported_evolves s _ _)
      · split
        · exact icing_requestWrite_writes (enterReported_evolves s _ _)
        · exact .of_same rfl
    · exact .of_same rfl

theorem learnBaseline_writes {s t : State} (h : Writes s t) (may : Bool) (o1 : Option Nat) : Writes s (t.learnBaseline may o1) := by
  unfold State.learnBaseline
  split
  · exact h.then_icm (Changes.of_eq rfl) rfl rfl
  · exact h

theorem evaluateIcing_writes (s : State) (due : Tick) : Writes s (s.evaluateIcing due) :=
  (learnBaseline_writes (moveIcing_writes (s.emptyGatherings due) _ _ _) _ _).then_icm (Changes.of_eq rfl) rfl rfl

theorem confirmExpired_writes (s : State) : Writes s s.confirmExpired := by
  unfold State.confirmExpired
  split
  · exact .of_same rfl
  · exact icing_requestWrite_writes (icedEvent_evolves s)

theorem thawExpired_writes (s : State) : Writes s s.thawExpired := by
  unfold State.thawExpired
  split
  · split
    · exact icing_requestWrite_writes (enterReported_evolves s _ _)
    · exact .of_same rfl
  · exact .of_same rfl

theorem countAutosave_writes (s : State) : Writes s s.countAutosave := by
  unfold State.countAutosave
  split
  · exact ⟨rfl, .inl ⟨rfl, .inl rfl⟩⟩
  · exact requestWrite_writes rfl rfl rfl

theorem deviceSecond_writes (s : State) : Writes s s.deviceSecond := by
  unfold State.deviceSecond
  obtain ⟨image, flight⟩ := countAutosave_writes ({ s with clk := s.clk.advanced } : State).secondForItems
  have sst : ({ s with clk := s.clk.advanced } : State).secondForItems.sst = s.sst :=
    secondForItems_evolves { s with clk := s.clk.advanced } .sst (by decide)
  rw [sst] at image flight
  exact ⟨image, flight⟩

theorem answer_writes (s : State) (r : Request) : Writes s (s.answer r).1 := by
  by_cases free : Aspect.sst ∈ freeIn r
  · cases r with
    | iceRelease =>
      change Writes s (serveIceRelease s).1
      unfold serveIceRelease
      split
      · split
        · exact icing_requestWrite_writes (enterReported_evolves s _ _)
        · exact .of_same rfl
      · exact .of_same rfl
    | _ => simp [freeIn] at free
  · exact .of_same (answer_evolves s r .sst free)

/-- An event that keeps the part alive and may write. -/
theorem Occurs.writes {s t : State} {c : Instr} (h : Occurs s c t) : Aspect.phase ∈ ownFree c ∨ Writes s t := by
  cases h with
  | powerOn | startupEnd | resetBegin | powerLoss => exact .inl (by simp [ownFree, Aspect.all])
  | pulse ch high tick => exact .inr (.of_same (pulse_evolves s ch high tick .sst (by decide)))
  | countedEdge ch x running held => exact .inr (.of_same (confirmEdge_evolves _ ch x .sst (by decide)))
  | virtualEdge ch due running locked deadline => exact .inr (.of_same (virtualEdge_evolves _ ch .sst (by decide)))
  | holdoverDeadline ch due running holdover deadline => exact .inr (.of_same (stall_evolves _ ch .sst (by decide)))
  | strobe ch r due running left at' => exact .inr (.of_same (fireStrobe_evolves _ ch r .sst (by decide)))
  | conversionComplete code conv running converting =>
    exact .inr (.of_same (completeConversion_evolves _ conv code .sst (by decide)))
  | computationEnd va tick comp running computing => exact .inr (.of_same (endComputation_evolves _ va comp .sst (by decide)))
  | powerExpiry k running known => exact .inr (.of_same rfl)
  | startupSecond starting => exact .inr (.of_same rfl)
  | deviceSecond running => exact .inr (deviceSecond_writes (s.advance s.clk.nextSecond))
  | ambientStale a due running held fresh => exact .inr (.of_same rfl)
  | iceEvaluation due running next => exact .inr (evaluateIcing_writes (s.advance due) due)
  | confirmExpiry due running suspect runs => exact .inr (confirmExpired_writes (s.advance due))
  | thawExpiry due running thaw runs => exact .inr (thawExpired_writes (s.advance due))
  | keyFall tick => exact .inr (.of_same (key_evolves s tick true _ .sst (by decide)))
  | keyRise tick => exact .inr (.of_same (key_evolves s tick false _ .sst (by decide)))
  | keyLongLow due running => exact .inr (.of_same rfl)
  | trainEnd n due running train => exact .inr (.of_same (endTrain_evolves (s.advance due) n .sst (by decide)))
  | holdExpiry due running runs => exact .inr (.of_same (expireHold_evolves (s.advance due) .sst (by decide)))

theorem startUp_sst (s : State) : s.startUp.sst = Sst.afterStartUp s.sst.image := by
  unfold State.startUp
  split <;> rfl

theorem afterStartUp_holds {P : Image → Prop} {stored : StoredImage} (good : ∀ image, stored = .valid image → P image) :
    (Sst.afterStartUp stored).Holds P :=
  ⟨good, fun w (held : none = some w) => absurd held nofun⟩

/-- The images that the store holds keep a property that the contents have before and after each step of a command. -/
theorem Happens.holds {L : State → Prop} {P : Image → Prop} {s t : State} {c : Instr} (h : Happens s c t) (ignores : IgnoresIcing P)
    (contents : ∀ {u}, L u → P u.contents) (quiet : ∀ {u v}, StoreStep u v → L u → L v)
    (answers : ∀ r {u}, u.phase = .running → L u → L (u.answer r).1) (before : L s) (after : L t) (held : s.sst.Holds P) : t.sst.Holds P := by
  cases h with
  | stands step => exact step.2.2 P (contents before) held
  | serves r running about served =>
    obtain ⟨u, first, last⟩ := served
    have atU : L u := quiet first before
    have alive : u.phase = .running := (show u.phase = s.phase from first.1 .phase (by decide)).trans running
    have answered : (u.answer r).1.sst.Holds P :=
      (answer_writes u r).holds ignores (contents (answers r alive atU)) (first.2.2 P (contents before) held)
    exact last.2.2 P (contents (answers r alive atU)) answered
  | occurs event =>
    have writes := event.writes
    cases event with
    | powerOn =>
      rw [State.powerOn, startUp_sst]
      exact afterStartUp_holds (unpowered_stored held.1)
    | resetBegin tick running ready => rw [startUp_sst]; exact afterStartUp_holds held.1
    | powerLoss tick => exact afterStartUp_holds (unpowered_stored held.1)
    | startupEnd tick starting => exact held
    | _ => exact (writes.resolve_left (by simp [ownFree])).holds ignores (contents after) held

end Sys2Proof.Machine
end

section
set_option Elab.async false
/-! The law of the items, and what an accrued count can fall by. -/

namespace Sys2Proof.Machine

/-! ### Items -/

theorem itemStateOf_ne_unused (interval lead accrued : Nat) : itemStateOf interval lead accrued ≠ .unused := by
  unfold itemStateOf
  split
  · nofun
  · split
    · nofun
    · split <;> nofun

theorem computedState_ne_unused {it : Item} (used : it.basis ≠ .none) : it.computedState ≠ .unused := by
  rw [computedState_inUse used]
  exact itemStateOf_ne_unused _ _ _

theorem valid_unused : Item.unused.Valid := by simp [Item.Valid, Item.unused]

theorem valid_used {it : Item} (used : it.basis ≠ .none) :
    it.Valid ↔ it.state ≠ .unused ∧ sourceFits it.basis it.source = true ∧ it.tag ≤ max16 ∧ 1 ≤ it.interval ∧ it.interval ≤ 1000000
      ∧ it.lead ≤ 1000000 ∧ it.accrued ≤ max32 ∧ it.doneCount ≤ max16 ∧ (it.basis ≠ .calendar → it.calendarStart = none) := by
  rw [Item.Valid, if_neg used]

theorem Item.Valid.accrued_le {it : Item} (h : it.Valid) : it.accrued ≤ max32 := by
  by_cases used : it.basis = .none
  · rw [Item.Valid, if_pos used] at h
    rw [h]
    exact Nat.zero_le _
  · obtain ⟨-, -, -, -, -, -, accrued, -⟩ := (valid_used used).1 h
    exact accrued

/-- A valid item in use with another count, its state recomputed. -/
theorem Item.Valid.counted {it : Item} (h : it.Valid) (used : it.basis ≠ .none) {a : Nat} (bound : a ≤ max32) :
    ({ it with accrued := a, state := ({ it with accrued := a } : Item).computedState } : Item).Valid := by
  obtain ⟨-, source, tag, one, interval, lead, -, done, start⟩ := (valid_used used).1 h
  have state := computedState_ne_unused (it := { it with accrued := a }) used
  rw [Item.Valid, if_neg (show ({ it with accrued := a, state := ({ it with accrued := a } : Item).computedState } : Item).basis ≠ .none
    from used)]
  exact ⟨state, source, tag, one, interval, lead, bound, done, start⟩

theorem Item.Grows.valid {it it' : Item} (h : it.Grows it') (valid : it.Valid) : it'.Valid := by
  rcases h with rfl | ⟨used, -, a, bound, -, rfl⟩
  · exact valid
  · exact valid.counted used bound

theorem Item.Grows.countsFrom {it it' : Item} (h : it.Grows it') {farm : Option Nat} (counts : it.CountsFrom farm) :
    it'.CountsFrom farm := by
  rcases h with rfl | ⟨-, other, a, -, -, rfl⟩
  · exact counts
  · exact fun f _ calendar => absurd calendar other

theorem Item.Grows.accrued_le {it it' : Item} (h : it.Grows it') (valid : it.Valid) : it.accrued ≤ it'.accrued := by
  rcases h with rfl | ⟨-, -, a, -, rises, rfl⟩
  · exact Nat.le_refl _
  · exact rises valid.accrued_le

theorem recounted_calendar {it : Item} {start : Nat} (calendar : it.basis = .calendar) (started : it.calendarStart = some start)
    (farm : Nat) :
    it.recounted farm = { it with accrued := farm - start, state := ({ it with accrued := farm - start } : Item).computedState } := by
  simp [Item.recounted, calendar, started]

theorem recounted_other {it : Item} (other : it.basis ≠ .calendar) (farm : Nat) : it.recounted farm = it := by
  unfold Item.recounted
  split
  next calendar _ => exact absurd calendar other
  · rfl

/-- A CALENDAR item has a start. -/
def Item.Started (it : Item) : Prop := it.basis = .calendar → it.calendarStart.isSome

theorem recounted_valid {it : Item} (valid : it.Valid) {farm : Nat} (bound : farm ≤ max32) : (it.recounted farm).Valid := by
  by_cases calendar : it.basis = .calendar
  · cases started : it.calendarStart with
    | none => simpa [Item.recounted, calendar, started] using valid
    | some start =>
      rw [recounted_calendar calendar started]
      exact valid.counted (by simp [calendar]) ((Nat.sub_le _ _).trans bound)
  · rwa [recounted_other calendar]

theorem recounted_countsFrom {it : Item} (started : it.Started) (farm : Nat) : (it.recounted farm).CountsFrom (some farm) := by
  rintro f ⟨⟩ calendar
  by_cases was : it.basis = .calendar
  · obtain ⟨start, hs⟩ := Option.isSome_iff_exists.1 (started was)
    rw [recounted_calendar was hs]
    exact ⟨start, hs, rfl⟩
  · rw [recounted_other was] at calendar
    exact absurd calendar was

/-! ### The law of the items -/

/-- Every item is valid and counts from its start, and farm time is a 32-bit count, unsynced until start-up has ended. -/
def ItemsFit (s : State) : Prop :=
  (∀ slot, (s.msc.get slot).Valid ∧ (s.msc.get slot).CountsFrom s.clk.farm) ∧ (∀ f, s.clk.farm = some f → f ≤ max32)
    ∧ (s.phase ≠ .running → s.clk.farm = none)

theorem itemLaw_iff (s : State) : ItemLaw s ↔ ItemsFit s ∧ s.sst.Holds Image.ItemsValid := by
  simp only [ItemLaw, ItemsFit, and_assoc]

theorem itemsFit_carried {s t : State} (h : ∀ a ∈ [Aspect.items, .clk, .phase], a.Kept s t) (fit : ItemsFit s) : ItemsFit t := by
  have grows : ∀ slot, (s.msc.get slot).Grows (t.msc.get slot) := h .items (by simp)
  obtain ⟨items, farm, phase⟩ := fit
  rw [ItemsFit, show t.clk = s.clk from h .clk (by simp), show t.phase = s.phase from h .phase (by simp)]
  exact ⟨fun slot => ⟨(grows slot).valid (items slot).1, (grows slot).countsFrom (items slot).2⟩, farm, phase⟩

theorem stored_loaded_valid {it : Item} (valid : it.Valid) : it.stored.loaded.Valid := by
  by_cases used : it.basis = .none
  · rw [Item.Valid, if_pos used] at valid
    subst valid
    exact valid_unused
  · obtain ⟨-, rest⟩ := (valid_used used).1 valid
    have state := computedState_ne_unused (it := { it with state := .unused }) used
    rw [Item.Valid, if_neg (show it.stored.loaded.basis ≠ .none from used)]
    exact ⟨state, rest⟩

theorem contents_itemsValid {s : State} (fit : ItemsFit s) : s.contents.ItemsValid := fun slot => by
  change ((s.msc.map Item.stored).get slot).loaded.Valid
  rw [Tab.get_map]
  exact stored_loaded_valid (fit.1 slot).1

theorem itemsValid_ignoresIcing : IgnoresIcing Image.ItemsValid := fun a b same valid slot => by
  rw [same]
  exact valid slot

theorem wrap32_le (n : Nat) : wrap32 n ≤ max32 := by
  unfold wrap32 max32
  omega

theorem secondForItems_grows (s : State) (slot : Fin 16) :
    ∃ it, (s.msc.get slot).Grows it
      ∧ s.secondForItems.msc.get slot = match s.clk.farm with | some f => it.recounted f | none => it := by
  have accrued : Evolves [] s (if s.rgc.regime.val ≥ 1 then s.accrue (onBasis .operating) 1 else s) := by
    split
    · exact accrue_evolves (onBasis_sparesCalendar (b := .operating) nofun nofun) s 1
    · exact .refl _ s
  unfold State.secondForItems
  generalize (if s.rgc.regime.val ≥ 1 then s.accrue (onBasis .operating) 1 else s) = t at accrued ⊢
  refine ⟨t.msc.get slot, accrued .items (by decide) slot, ?_⟩
  have clk : t.clk = s.clk := accrued .clk (by decide)
  rw [← clk]
  cases farm : t.clk.farm with
  | none => simp [State.recountCalendars, farm]
  | some f => exact recountCalendars_item t f farm slot

theorem countAutosave_msc (s : State) : s.countAutosave.msc = s.msc := by
  unfold State.countAutosave
  split <;> rfl

theorem deviceSecond_item (s : State) (slot : Fin 16) :
    ∃ it, (s.msc.get slot).Grows it
      ∧ s.deviceSecond.msc.get slot = match s.clk.advanced.farm with | some f => it.recounted f | none => it := by
  unfold State.deviceSecond
  rw [countAutosave_msc]
  exact secondForItems_grows { s with clk := s.clk.advanced } slot

theorem advanced_farm {c : Clock} {f : Nat} (farm : c.farm = some f) : c.advanced.farm = some (wrap32 (f + 1)) := by
  simp [Clock.advanced, farm]

theorem advanced_unsynced {c : Clock} (farm : c.farm = none) : c.advanced.farm = none := by simp [Clock.advanced, farm]

theorem deviceSecond_clk (s : State) : s.deviceSecond.clk = s.clk.advanced := by
  have items : ({ s with clk := s.clk.advanced } : State).secondForItems.clk = s.clk.advanced :=
    secondForItems_evolves { s with clk := s.clk.advanced } .clk (by decide)
  have autosave (t : State) : t.countAutosave.clk = t.clk := countAutosave_evolves t .clk (by decide)
  unfold State.deviceSecond
  rw [autosave, items]

/-- An item that counted from its start before a second counts from it after. -/
theorem Item.CountsFrom.started {it : Item} {farm : Nat} (h : it.CountsFrom (some farm)) : it.Started := fun calendar => by
  obtain ⟨start, started, -⟩ := h farm rfl calendar
  simp [started]

theorem deviceSecond_itemsFit {s : State} (running : s.phase = .running) (fit : ItemsFit s) : ItemsFit s.deviceSecond := by
  obtain ⟨items, -, -⟩ := fit
  have phase : s.deviceSecond.phase = s.phase := deviceSecond_evolves s .phase (by decide)
  rw [ItemsFit, deviceSecond_clk, phase]
  refine ⟨fun slot => ?_, fun f => ?_, fun off => absurd running off⟩
  · obtain ⟨it, grows, item⟩ := deviceSecond_item s slot
    rw [item]
    cases farm : s.clk.farm with
    | none =>
      rw [advanced_unsynced farm]
      exact ⟨grows.valid (items slot).1, nofun⟩
    | some f =>
      rw [advanced_farm farm]
      have counts := grows.countsFrom (items slot).2
      rw [farm] at counts
      exact ⟨recounted_valid (grows.valid (items slot).1) (wrap32_le _), recounted_countsFrom counts.started _⟩
  · cases farm : s.clk.farm with
    | none => rw [advanced_unsynced farm]; nofun
    | some g =>
      rw [advanced_farm farm]
      rintro ⟨⟩
      exact wrap32_le _

/-! ### Requests -/

theorem withStart_started (farm : Nat) (it : Item) : (it.withStart farm).Started := by
  unfold Item.withStart Item.Started
  split
  · simp
  next other => exact fun calendar => Option.isSome_iff_ne_none.2 fun unset => other ⟨calendar, unset⟩

theorem withStart_valid {it : Item} (farm : Nat) (valid : it.Valid) : (it.withStart farm).Valid := by
  unfold Item.withStart
  split
  next calendar =>
    have used : it.basis ≠ .none := by simp [calendar.1]
    obtain ⟨state, source, tag, one, interval, lead, accrued, done, -⟩ := (valid_used used).1 valid
    exact (valid_used (it := { it with calendarStart := some farm }) used).2
      ⟨state, source, tag, one, interval, lead, accrued, done, fun other => absurd calendar.1 other⟩
  next => exact valid

theorem setFarm_item (s : State) (farm : Nat) (slot : Fin 16) :
    (s.setFarm farm).msc.get slot = ((s.msc.get slot).withStart farm).recounted farm := by
  rw [setFarm_eq, recountCalendars_item _ farm rfl]
  simp [State.farmGiven]

theorem setFarm_clk (s : State) (farm : Nat) : (s.setFarm farm).clk = { s.clk with farm := some farm } := by
  rw [setFarm_eq]
  exact recountCalendars_evolves (s.farmGiven farm) .clk (by decide)

theorem serveTime_itemsFit (farm : Nat) {s : State} (running : s.phase = .running) (fit : ItemsFit s) :
    ItemsFit (serveTime farm s).1 := by
  rw [serveTime_eq]
  split
  next bound =>
    obtain ⟨items, -, -⟩ := fit
    have phase : (s.setFarm farm).phase = s.phase := setFarm_evolves s farm .phase (by decide)
    rw [ItemsFit, setFarm_clk, phase]
    refine ⟨fun slot => ?_, ?_, fun off => absurd running off⟩
    · rw [setFarm_item]
      exact ⟨recounted_valid (withStart_valid farm (items slot).1) bound, recounted_countsFrom (withStart_started farm _) farm⟩
    · rintro f ⟨⟩
      exact bound
  next => exact fit

theorem itemSourceOf_fits {b : Basis} {raw : Nat} {src : ItemSource} (h : itemSourceOf b raw = some src) : sourceFits b src = true := by
  have unsourced (plain : (if raw = namedValue then some ItemSource.none else none) = some src) : src = .none := by
    split at plain
    · exact (Option.some.inj plain).symm
    · exact absurd plain nofun
  cases b with
  | damage =>
    obtain ⟨va, -, rfl⟩ := Option.map_eq_some_iff.1 h
    rfl
  | revolutions =>
    simp only [itemSourceOf] at h
    split at h
    · obtain rfl := Option.some.inj h; rfl
    · obtain rfl := Option.some.inj h; rfl
    · exact absurd h nofun
  | none | operating | energy | ice | calendar => rw [unsourced h]; rfl

/-- What SET_ITEM can leave in a slot. -/
theorem serveSetItem_item (f : ItemFields) (s : State) (slot : Fin 16) :
    (serveSetItem f s).1.msc.get slot = s.msc.get slot
      ∨ (f.slot = slot.val ∧ basisOf f.basis = some .none ∧ (serveSetItem f s).1.msc.get slot = Item.unused)
      ∨ (f.slot = slot.val ∧ ∃ b src, basisOf f.basis = some b ∧ b ≠ .none ∧ itemSourceOf b f.source = some src
          ∧ itemFieldsInRange f = true
          ∧ (serveSetItem f s).1.msc.get slot = (s.msc.get slot).written f b src s.clk.farm) := by
  have named {o : Fin 16} (h : slotOf f.slot = some o) : f.slot = o.val := by
    unfold slotOf at h
    split at h
    · obtain rfl := Option.some.inj h; rfl
    · exact absurd h nofun
  cases toSlot : slotOf f.slot with
  | none => exact .inl (by rw [serveSetItem_refused s f (.inl toSlot)])
  | some o =>
    cases basis : basisOf f.basis with
    | none => exact .inl (by rw [serveSetItem_refused s f (.inr (.inl basis))])
    | some b =>
      by_cases unused : b = .none
      · subst unused
        have result : (serveSetItem f s).1 = s.setItem o Item.unused := by simp [serveSetItem, toSlot, basis]
        rw [result, State.setItem_msc, Tab.get_set]
        by_cases same : o = slot
        · subst same; exact .inr (.inl ⟨named toSlot, rfl, by simp⟩)
        · exact .inl (by simp [same])
      · cases source : itemSourceOf b f.source with
        | none => exact .inl (by rw [serveSetItem_refused s f (.inr (.inr ⟨b, basis, unused, .inl source⟩))])
        | some src =>
          cases inRange : itemFieldsInRange f with
          | false => exact .inl (by rw [serveSetItem_refused s f (.inr (.inr ⟨b, basis, unused, .inr inRange⟩))])
          | true =>
            rw [serveSetItem_written s f o (named toSlot) basis unused source inRange]
            simp only [State.itemWritten]
            rw [Tab.get_set]
            by_cases same : o = slot
            · subst same; exact .inr (.inr ⟨named toSlot, b, src, rfl, unused, source, trivial, by simp⟩)
            · exact .inl (by simp [same])

theorem written_valid {it : Item} (valid : it.Valid) {f : ItemFields} {b : Basis} {src : ItemSource} (farm : Option Nat)
    (used : b ≠ .none) (source : itemSourceOf b f.source = some src) (inRange : itemFieldsInRange f = true) :
    (it.written f b src farm).Valid := by
  obtain ⟨tag, one, interval, lead⟩ := (itemFieldsInRange_eq_true f).1 inRange
  rw [written_eq it f src farm used, Item.Valid, if_neg used]
  refine ⟨itemStateOf_ne_unused _ _ _, itemSourceOf_fits source, tag, one, interval, lead, ?_, ?_, fun other => ?_⟩
  · dsimp only
    split
    · exact valid.accrued_le
    · exact Nat.zero_le _
  · dsimp only
    split
    next same =>
      obtain ⟨-, -, -, -, -, -, -, done, -⟩ := (valid_used (same ▸ used)).1 valid
      exact done
    next => exact Nat.zero_le _
  · dsimp only at other ⊢
    split
    next kept =>
      obtain ⟨-, -, -, -, -, -, -, -, start⟩ := (valid_used (kept.1 ▸ used)).1 valid
      exact start (kept.1 ▸ other)
    next => simp

theorem written_countsFrom {it : Item} {farm : Option Nat} (counts : it.CountsFrom farm) {f : ItemFields} {b : Basis}
    {src : ItemSource} (used : b ≠ .none) : (it.written f b src farm).CountsFrom farm := by
  intro g synced calendar
  rw [written_eq it f src farm used] at calendar ⊢
  dsimp only at calendar ⊢
  split
  next kept => exact counts g synced (kept.1.trans calendar)
  next => exact ⟨g, by simp [synced], by simp⟩

theorem countsFrom_unused (farm : Option Nat) : Item.unused.CountsFrom farm := fun _ _ calendar => absurd calendar nofun

theorem serveSetItem_itemsFit (f : ItemFields) {s : State} (fit : ItemsFit s) : ItemsFit (serveSetItem f s).1 := by
  obtain ⟨items, farm, phase⟩ := fit
  have evolves := serveSetItem_evolves f s
  rw [ItemsFit, show (serveSetItem f s).1.clk = s.clk from evolves .clk (by decide),
    show (serveSetItem f s).1.phase = s.phase from evolves .phase (by decide)]
  refine ⟨fun slot => ?_, farm, phase⟩
  rcases serveSetItem_item f s slot with same | ⟨-, -, unused⟩ | ⟨-, b, src, -, used, source, inRange, written⟩
  · rw [same]; exact items slot
  · rw [unused]; exact ⟨valid_unused, countsFrom_unused _⟩
  · rw [written]
    exact ⟨written_valid (items slot).1 _ used source inRange, written_countsFrom (items slot).2 used⟩

/-- What SERVICE_DONE can leave in a slot. -/
theorem serveServiceDone_item (raw : Nat) (s : State) (slot : Fin 16) :
    (serveServiceDone raw s).1.msc.get slot = s.msc.get slot
      ∨ (raw = slot.val ∧ s.serviceHold = true ∧ (s.msc.get slot).basis ≠ .none
          ∧ ((s.msc.get slot).basis = .calendar → s.clk.farm ≠ none)
          ∧ (serveServiceDone raw s).1.msc.get slot = (s.msc.get slot).serviced s.clk.farm) := by
  unfold serveServiceDone
  split
  · exact .inl rfl
  next o toSlot =>
    have named : raw = o.val := by
      unfold slotOf at toSlot
      split at toSlot
      · obtain rfl := Option.some.inj toSlot; rfl
      · exact absurd toSlot nofun
    dsimp only
    split
    · exact .inl rfl
    next hold =>
      split
      · exact .inl rfl
      next used =>
        split
        · exact .inl rfl
        next synced =>
          rw [State.raise_msc, State.setItem_msc, Tab.get_set]
          by_cases same : o = slot
          · subst same
            exact .inr ⟨named, by simpa using hold, used, fun calendar unset => synced ⟨calendar, unset⟩, by simp⟩
          · exact .inl (by simp [same])

theorem serviced_valid {it : Item} (valid : it.Valid) (used : it.basis ≠ .none) (farm : Option Nat) : (it.serviced farm).Valid := by
  obtain ⟨-, source, tag, one, interval, lead, -, done, start⟩ := (valid_used used).1 valid
  rw [Item.Valid, if_neg (show (it.serviced farm).basis ≠ .none from used)]
  refine ⟨nofun, source, tag, one, interval, lead, Nat.zero_le _, Nat.min_le_left _ _, fun other => ?_⟩
  exact (if_neg other).trans (start other)

theorem serviced_countsFrom (it : Item) (farm : Option Nat) : (it.serviced farm).CountsFrom farm := by
  rintro f rfl calendar
  exact ⟨f, if_pos calendar, (Nat.sub_self f).symm⟩

theorem serveServiceDone_itemsFit (raw : Nat) {s : State} (fit : ItemsFit s) : ItemsFit (serveServiceDone raw s).1 := by
  obtain ⟨items, farm, phase⟩ := fit
  have evolves := serveServiceDone_evolves raw s
  rw [ItemsFit, show (serveServiceDone raw s).1.clk = s.clk from evolves .clk (by decide),
    show (serveServiceDone raw s).1.phase = s.phase from evolves .phase (by decide)]
  refine ⟨fun slot => ?_, farm, phase⟩
  rcases serveServiceDone_item raw s slot with same | ⟨-, -, used, -, serviced⟩
  · rw [same]; exact items slot
  · rw [serviced]; exact ⟨serviced_valid (items slot).1 used _, serviced_countsFrom _ _⟩

/-! ### Start-up -/

theorem itemsFit_of_started {s : State} {image : Image} (good : image.ItemsValid) (msc : s.msc = image.items.map StoredItem.loaded)
    (farm : s.clk.farm = none) : ItemsFit s := by
  rw [ItemsFit, farm, msc]
  refine ⟨fun slot => ⟨?_, nofun⟩, nofun, fun _ => rfl⟩
  rw [Tab.get_map]
  exact good slot

theorem defaults_itemsValid : Image.defaults.ItemsValid := fun slot => by
  simp only [Image.defaults, Tab.get_replicate]
  exact valid_unused

theorem startUp_itemsFit {s : State} (stored : ∀ image, s.sst.image = .valid image → image.ItemsValid) : ItemsFit s.startUp := by
  obtain ⟨image, good, loaded | loaded⟩ := startUp_loads stored defaults_itemsValid
  · rw [loaded]; exact itemsFit_of_started good rfl rfl
  · rw [loaded]; exact itemsFit_of_started good rfl rfl

theorem itemsFit_answer (r : Request) {u : State} (running : u.phase = .running) (fit : ItemsFit u) : ItemsFit (u.answer r).1 := by
  by_cases free : ∃ a ∈ [Aspect.items, .clk, .phase], a ∈ freeIn r
  · cases r with
    | time farm => exact serveTime_itemsFit farm running fit
    | setItem f => exact serveSetItem_itemsFit f fit
    | serviceDone slot => exact serveServiceDone_itemsFit slot fit
    | _ => simp [freeIn] at free
  · exact itemsFit_carried (fun a ha => answer_evolves u r a fun mem => free ⟨a, ha, mem⟩) fit

theorem itemsFit_kept {s t : State} {c : Instr} (h : Happens s c t)
    (stored : ∀ image, s.sst.image = .valid image → image.ItemsValid) (fit : ItemsFit s) : ItemsFit t := by
  refine h.keeps [.items, .clk, .phase] itemsFit_carried (by decide) (fun r _ u => itemsFit_answer r) ?_ fit
  intro free event fit
  cases event with
  | powerOn => exact startUp_itemsFit (unpowered_stored stored)
  | resetBegin tick running ready => exact startUp_itemsFit (s := s.advance tick) stored
  | powerLoss tick => exact itemsFit_of_started (image := Image.defaults) defaults_itemsValid rfl rfl
  | startupEnd tick starting =>
    obtain ⟨items, farm, -⟩ := fit
    exact ⟨items, farm, fun off => absurd rfl off⟩
  | startupSecond starting =>
    have unsynced : s.clk.farm = none := fit.2.2 (by simp [starting])
    obtain ⟨items, -, -⟩ := fit
    rw [unsynced] at items
    rw [ItemsFit, show ({ s.advance s.clk.nextSecond with clk := s.clk.advanced } : State).clk.farm = none from
      advanced_unsynced unsynced]
    exact ⟨items, nofun, fun _ => rfl⟩
  | deviceSecond running => exact deviceSecond_itemsFit (s := s.advance s.clk.nextSecond) running fit
  | _ => simp [ownFree] at free

/-- Settles O9: accruals and recounts recompute what they move, SET_ITEM checks what it writes, and a copy for the store is taken of
items that are valid. -/
theorem itemLawKept : Obligations.ItemLawKept := by
  refine step_keeps (fun _ _ law => law) fun c s t h law => ?_
  rw [itemLaw_iff] at law ⊢
  obtain ⟨fit, held⟩ := law
  have after := itemsFit_kept h held.1 fit
  exact ⟨after, h.holds itemsValid_ignoresIcing contents_itemsValid
    (fun step => itemsFit_carried fun a ha => step.1 a (by revert a; decide)) itemsFit_answer fit after held⟩

end Sys2Proof.Machine
end

section
set_option Elab.async false
/-! What an accrued count falls by, and what ends ICED and THAW. -/

namespace Sys2Proof.Machine

/-! ### Accrued counts -/

/-- What a store write copies of an item stands through a step of the link and the store. -/
theorem StoreStep.stored {s t : State} (h : StoreStep s t) (slot : Fin 16) : (t.msc.get slot).stored = (s.msc.get slot).stored := by
  obtain ⟨-, contents, -⟩ := h
  have items : t.msc.map Item.stored = s.msc.map Item.stored := congrArg Image.items contents
  simpa using congrArg (fun l => l.get slot) items

theorem StoreStep.accrued {s t : State} (h : StoreStep s t) (slot : Fin 16) : (t.msc.get slot).accrued = (s.msc.get slot).accrued :=
  congrArg StoredItem.accrued (h.stored slot)

theorem StoreStep.basis {s t : State} (h : StoreStep s t) (slot : Fin 16) : (t.msc.get slot).basis = (s.msc.get slot).basis :=
  congrArg StoredItem.basis (h.stored slot)

theorem setFarm_falls {it : Item} {before : Option Nat} (counts : it.CountsFrom before) {farm : Nat}
    (falls : ((it.withStart farm).recounted farm).accrued < it.accrued) :
    it.basis = .calendar ∧ ∀ f, before = some f → farm < f := by
  by_cases calendar : it.basis = .calendar
  · refine ⟨calendar, fun f synced => ?_⟩
    obtain ⟨start, started, count⟩ := counts f synced calendar
    have begun : it.withStart farm = it := by simp [Item.withStart, started]
    rw [begun, recounted_calendar calendar started] at falls
    dsimp only at falls
    omega
  · have begun : it.withStart farm = it := by simp [Item.withStart, calendar]
    rw [begun, recounted_other calendar] at falls
    exact absurd falls (Nat.lt_irrefl _)

/-- What a request can make an accrued count fall by. -/
theorem answer_falls {u : State} (fit : ItemsFit u) (r : Request) (slot : Fin 16)
    (falls : ((u.answer r).1.msc.get slot).accrued < (u.msc.get slot).accrued) :
    (u.serviceHold = true ∧ r = .serviceDone slot.val)
      ∨ (∃ f, r = .setItem f ∧ f.slot = slot.val ∧ ¬(f.choice = .keep ∧ basisOf f.basis = some (u.msc.get slot).basis))
      ∨ ((u.msc.get slot).basis = .calendar ∧ ∃ farm, r = .time farm ∧ ∀ f, u.clk.farm = some f → farm < f) := by
  obtain ⟨valid, counts⟩ := fit.1 slot
  by_cases free : Aspect.items ∈ freeIn r
  · cases r with
    | time farm =>
      change ((serveTime farm u).1.msc.get slot).accrued < _ at falls
      rw [serveTime_eq] at falls
      split at falls
      · rw [setFarm_item] at falls
        obtain ⟨calendar, later⟩ := setFarm_falls counts falls
        exact .inr (.inr ⟨calendar, farm, rfl, later⟩)
      · exact absurd falls (Nat.lt_irrefl _)
    | setItem f =>
      change ((serveSetItem f u).1.msc.get slot).accrued < _ at falls
      rcases serveSetItem_item f u slot with same | ⟨named, basis, -⟩ | ⟨named, b, src, basis, used, -, -, written⟩
      · rw [same] at falls; exact absurd falls (Nat.lt_irrefl _)
      · refine .inr (.inl ⟨f, rfl, named, fun ⟨_, was⟩ => ?_⟩)
        obtain unused : .none = (u.msc.get slot).basis := Option.some.inj (basis.symm.trans was)
        rw [Item.Valid, if_pos unused.symm] at valid
        rw [valid] at falls
        exact absurd falls (Nat.not_lt_zero _)
      · refine .inr (.inl ⟨f, rfl, named, fun ⟨keep, was⟩ => ?_⟩)
        obtain same : b = (u.msc.get slot).basis := Option.some.inj (basis.symm.trans was)
        rw [written, written_eq _ f src _ used] at falls
        dsimp only at falls
        rw [if_pos ⟨same.symm, keep⟩] at falls
        exact absurd falls (Nat.lt_irrefl _)
    | serviceDone raw =>
      change ((serveServiceDone raw u).1.msc.get slot).accrued < _ at falls
      rcases serveServiceDone_item raw u slot with same | ⟨named, hold, -⟩
      · rw [same] at falls; exact absurd falls (Nat.lt_irrefl _)
      · exact .inl ⟨hold, by rw [named]⟩
    | _ => simp [freeIn] at free
  · have grows : (u.msc.get slot).Grows ((u.answer r).1.msc.get slot) := answer_evolves u r .items free slot
    exact absurd falls (Nat.not_lt_of_le (grows.accrued_le valid))

theorem deviceSecond_falls {s : State} (fit : ItemsFit s) (slot : Fin 16)
    (falls : (s.deviceSecond.msc.get slot).accrued < (s.msc.get slot).accrued) :
    (s.msc.get slot).basis = .calendar ∧ s.clk.farm = some 4294967295 := by
  obtain ⟨items, bound, -⟩ := fit
  obtain ⟨valid, counts⟩ := items slot
  obtain ⟨it, grows, item⟩ := deviceSecond_item s slot
  rw [item] at falls
  have rises := grows.accrued_le valid
  cases farm : s.clk.farm with
  | none =>
    rw [advanced_unsynced farm] at falls
    exact absurd falls (Nat.not_lt_of_le rises)
  | some f =>
    rw [advanced_farm farm] at falls
    dsimp only at falls
    by_cases calendar : it.basis = .calendar
    · rcases grows with rfl | ⟨-, other, _, -, -, rfl⟩
      · obtain ⟨start, started, count⟩ := counts f farm calendar
        rw [recounted_calendar calendar started] at falls
        have := bound f farm
        refine ⟨calendar, ?_⟩
        simp only [wrap32, max32] at falls this
        congr 1
        omega
      · exact absurd calendar other
    · rw [recounted_other calendar] at falls
      exact absurd falls (Nat.not_lt_of_le rises)

/-- Settles O14: accruals only add; what remains are the three requests that write a count and the recounts of farm time. -/
theorem accruedFallsOnlyByService : Obligations.AccruedFallsOnlyByService := by
  intro c s t slot law h falls
  have fit := ((itemLaw_iff s).1 law).1
  have grown {u v : State} (kept : Aspect.items.Kept u v) (valid : (u.msc.get slot).Valid) :
      (u.msc.get slot).accrued ≤ (v.msc.get slot).accrued :=
    (show (u.msc.get slot).Grows (v.msc.get slot) from kept slot).accrued_le valid
  cases exec_happens h with
  | stands step => exact absurd falls (Nat.not_lt_of_le (grown (step.1 .items (by decide)) (fit.1 slot).1))
  | serves r running about served =>
    obtain ⟨u, before, after⟩ := served
    rw [after.accrued, ← before.accrued] at falls
    have skd : u.skd = s.skd := before.1 .skd (by decide)
    have clk : u.clk = s.clk := before.1 .clk (by decide)
    have hold : u.serviceHold = s.serviceHold := by simp only [State.serviceHold, skd]
    have fitU : ItemsFit u := itemsFit_carried (fun a ha => before.1 a (by revert a; decide)) fit
    have causes := answer_falls fitU r slot falls
    rw [hold, clk, before.basis] at causes
    rcases causes with ⟨held, rfl⟩ | ⟨f, rfl, cause⟩ | ⟨calendar, farm, rfl, later⟩
    · exact .inr (.inl ⟨held, about⟩)
    · exact .inr (.inr (.inl ⟨f, about, cause⟩))
    · exact .inr (.inr (.inr ⟨calendar, .inr ⟨farm, about, later⟩⟩))
  | occurs event =>
    by_cases free : Aspect.items ∈ ownFree c
    · cases event with
      | powerOn => exact .inl (.inl rfl)
      | resetBegin tick running ready => exact .inl (.inr ⟨tick, .inl rfl⟩)
      | powerLoss tick => exact .inl (.inr ⟨tick, .inr rfl⟩)
      | startupEnd tick starting => exact absurd falls (Nat.lt_irrefl _)
      | startupSecond starting => exact absurd falls (Nat.lt_irrefl _)
      | deviceSecond running =>
        obtain ⟨calendar, wraps⟩ := deviceSecond_falls (s := s.advance s.clk.nextSecond) fit slot falls
        exact .inr (.inr (.inr ⟨calendar, .inl ⟨rfl, wraps⟩⟩))
      | _ => simp [ownFree] at free
    · have kept := event.evolves .items (by simpa using free)
      exact absurd falls (Nat.not_lt_of_le (grown kept (fit.1 slot).1))

/-! ### ICED and THAW -/

theorem learnBaseline_state (s : State) (may : Bool) (o1 : Option Nat) : (s.learnBaseline may o1).icm.state = s.icm.state := by
  unfold State.learnBaseline
  split <;> rfl

theorem knownTemperature_emptyGatherings (s : State) (due : Tick) :
    (s.emptyGatherings due).icm.knownTemperature = s.icm.knownTemperature := rfl

/-- An evaluation ends ICED or THAW in CLEAR only from an elapsed THAW above Tice. -/
theorem evaluateIcing_clears {s : State} {due : Tick} (stops : s.icm.state.stops = true)
    (clear : (s.evaluateIcing due).icm.state = .clear) :
    s.icm.state = .thaw ∧ s.icm.tThaw = .elapsed
      ∧ ∃ temperature, s.icm.knownTemperature = some temperature ∧ s.icm.settings.tice < temperature := by
  unfold State.evaluateIcing at clear
  change (State.learnBaseline _ _ _).icm.state = .clear at clear
  rw [learnBaseline_state] at clear
  have state : (s.emptyGatherings due).icm.state = s.icm.state := rfl
  unfold State.moveIcing at clear
  rw [state] at clear
  cases now : s.icm.state with
  | clear | watch | suspect => simp [now, IcingState.stops] at stops
  | iced =>
    simp only [now, State.evaluateIced] at clear
    split at clear
    · split at clear
      · exact absurd clear nofun
      · exact absurd (clear.symm.trans now) nofun
    · exact absurd (clear.symm.trans now) nofun
  | thaw =>
    simp only [now, State.evaluateThaw, knownTemperature_emptyGatherings] at clear
    split at clear
    next temperature known =>
      split at clear
      · exact absurd clear nofun
      next above =>
        split at clear
        next elapsed => exact ⟨rfl, elapsed, temperature, known, Int.not_le.1 above⟩
        · exact absurd (clear.symm.trans now) nofun
    · exact absurd (clear.symm.trans now) nofun

theorem thawExpired_clears {s : State} (thaw : s.icm.state = .thaw) (clear : s.thawExpired.icm.state = .clear) :
    ∃ temperature, s.icm.knownTemperature = some temperature ∧ s.icm.settings.tice < temperature := by
  unfold State.thawExpired at clear
  split at clear
  next temperature known =>
    split at clear
    next above => exact ⟨temperature, known, above⟩
    · exact absurd (clear.symm.trans thaw) nofun
  · exact absurd (clear.symm.trans thaw) nofun

/-- A request ends ICED or THAW only as a release under service hold. -/
theorem answer_clears {u : State} {r : Request} (stops : u.icm.state.stops = true) (clear : (u.answer r).1.icm.state = .clear) :
    u.serviceHold = true ∧ r = .iceRelease := by
  have stays (same : (u.answer r).1.icm.state = u.icm.state) : u.serviceHold = true ∧ r = .iceRelease := by
    rw [← same, clear] at stops
    exact absurd stops nofun
  by_cases free : Aspect.icing ∈ freeIn r
  · cases r with
    | ambient f => exact stays rfl
    | setIce f =>
      refine stays ?_
      change (serveSetIce f u).1.icm.state = _
      unfold serveSetIce
      split
      · split <;> rfl
      · rfl
    | setCurve points =>
      refine stays ?_
      change (serveSetCurve points u).1.icm.state = _
      unfold serveSetCurve
      split <;> rfl
    | iceRelease =>
      by_cases hold : u.serviceHold = true
      · exact ⟨hold, rfl⟩
      · refine stays ?_
        change (serveIceRelease u).1.icm.state = _
        simp [serveIceRelease, hold]
        split <;> rfl
    | _ => simp [freeIn] at free
  · have gathers : u.icm.Gathers (u.answer r).1.icm := answer_evolves u r .icing free
    exact stays (by rw [gathers])

theorem gathers_state {m m' : Icm} (h : m.Gathers m') : m'.state = m.state := by rw [h]

/-- Settles O13: of the commands that can move the icing state, the evaluation and T_thaw's expiry reach CLEAR only from THAW above
Tice, and a request only as a release under service hold. -/
theorem icedEndsOnlyByThawOrRelease : Obligations.IcedEndsOnlyByThawOrRelease := by
  intro c s t h stops clear
  have moved (same : t.icm.state = s.icm.state) : False := by
    rw [← same, clear] at stops
    exact absurd stops nofun
  cases exec_happens h with
  | stands step => exact (moved (gathers_state (step.1 .icing (by decide)))).elim
  | serves r running about served =>
    obtain ⟨u, before, after⟩ := served
    have state : u.icm.state = s.icm.state := gathers_state (before.1 .icing (by decide))
    have skd : u.skd = s.skd := before.1 .skd (by decide)
    have answered : t.icm.state = (u.answer r).1.icm.state := gathers_state (after.1 .icing (by decide))
    obtain ⟨hold, rfl⟩ := answer_clears (r := r) (state ▸ stops) (answered ▸ clear)
    exact .inr (.inr ⟨by simpa only [State.serviceHold, skd] using hold, about⟩)
  | occurs event =>
    by_cases free : Aspect.icing ∈ ownFree c
    · cases event with
      | powerOn => exact .inl (.inl rfl)
      | resetBegin tick running ready => exact .inl (.inr ⟨tick, .inl rfl⟩)
      | powerLoss tick => exact .inl (.inr ⟨tick, .inr rfl⟩)
      | startupEnd tick starting => exact (moved rfl).elim
      | ambientStale a due running held fresh => exact (moved rfl).elim
      | iceEvaluation due running next =>
        obtain ⟨thaw, elapsed, above⟩ := evaluateIcing_clears (s := s.advance due) stops clear
        exact .inr (.inl ⟨thaw, .inr ⟨rfl, elapsed⟩, above⟩)
      | confirmExpiry due running suspect runs => simp [suspect, IcingState.stops] at stops
      | thawExpiry due running thaw runs =>
        exact .inr (.inl ⟨thaw, .inl rfl, thawExpired_clears (s := s.advance due) thaw clear⟩)
      | _ => simp [ownFree] at free
    · exact (moved (gathers_state (event.evolves .icing (by simpa using free)))).elim

end Sys2Proof.Machine
end

section
set_option Elab.async false
/-! The law of a channel, and where its settings come from. -/

namespace Sys2Proof.Machine

/-! ### Settings of a channel -/

/-- A channel's settings, in force and staged, are allowed ones. -/
def Track.Allowed (t : Track) (ch : Channel) : Prop := t.settings.InRange ch ∧ ∀ new, t.staged = some new → new.InRange ch

/-- The settings stand, or the staged ones have been applied. -/
def Track.SettingsFrom (t u : Track) : Prop :=
  u.settings = t.settings ∧ u.staged = t.staged ∨ t.staged = some u.settings ∧ u.staged = none

theorem Track.SettingsFrom.allowed {t u : Track} (h : t.SettingsFrom u) {ch : Channel} (allowed : t.Allowed ch) : u.Allowed ch := by
  obtain ⟨inForce, staged⟩ := allowed
  rcases h with ⟨same, same'⟩ | ⟨applied, none⟩
  · exact ⟨same ▸ inForce, fun new held => staged new (same' ▸ held)⟩
  · exact ⟨staged _ applied, fun new held => absurd (none.symm.trans held) nofun⟩

theorem Track.SettingsFrom.same {t u : Track} (settings : u.settings = t.settings) (staged : u.staged = t.staged) : t.SettingsFrom u :=
  .inl ⟨settings, staged⟩

theorem Track.SettingsFrom.before {t u v : Track} (settings : u.settings = t.settings) (staged : u.staged = t.staged)
    (h : u.SettingsFrom v) : t.SettingsFrom v := by
  rw [Track.SettingsFrom, ← settings, ← staged]
  exact h

theorem Track.SettingsFrom.after {t u v : Track} (h : t.SettingsFrom u) (settings : v.settings = u.settings)
    (staged : v.staged = u.staged) : t.SettingsFrom v := by
  rw [Track.SettingsFrom, settings, staged]
  exact h

theorem scheduled_settings (t : Track) (taking : Tick) : (t.scheduled taking).settings = t.settings := by
  unfold Track.scheduled
  split <;> rfl

theorem scheduled_staged (t : Track) (taking : Tick) : (t.scheduled taking).staged = t.staged := by
  unfold Track.scheduled
  split <;> rfl

theorem Track.SettingsFrom.scheduled {t u : Track} (h : t.SettingsFrom u) (taking : Tick) : t.SettingsFrom (u.scheduled taking) :=
  h.after (scheduled_settings u taking) (scheduled_staged u taking)

theorem applied_settings (t : Track) (new : TrackSettings) : (t.applied new).settings = new := by
  unfold Track.applied
  dsimp only
  split
  · split <;> rfl
  · split
    · split <;> rfl
    · rfl
  · split <;> rfl
  all_goals rfl

theorem applied_staged (t : Track) (new : TrackSettings) : (t.applied new).staged = none := by
  unfold Track.applied
  dsimp only
  split
  · split <;> rfl
  · split
    · split <;> rfl
    · rfl
  · split <;> rfl
  all_goals rfl

theorem settledNow_settings (t : Track) : t.SettingsFrom t.settledNow := by
  cases staged : t.staged with
  | none => rw [settledNow_none staged]; exact .same rfl rfl
  | some new =>
    rw [settledNow_some staged]
    exact .inr ⟨by rw [applied_settings, staged], applied_staged t new⟩

theorem appliedAtClose_settings (t : Track) : t.SettingsFrom t.appliedAtClose := by
  cases staged : t.staged with
  | none => rw [appliedAtClose_none staged]; exact .same rfl rfl
  | some new =>
    rw [appliedAtClose_some staged]
    unfold Track.effected
    split
    · exact .inr ⟨staged, rfl⟩
    · split
      · exact .inr ⟨staged, rfl⟩
      · exact .inr ⟨staged, rfl⟩

theorem turned_settings (t : Track) (ch : Channel) (edge taking : Tick) (virtual : Bool) :
    t.SettingsFrom (t.turned ch edge taking virtual) := by
  cases held : t.rev with
  | some rev =>
    rw [turned_open held]
    exact ((appliedAtClose_settings _).before rfl rfl).scheduled taking
  | none =>
    rw [turned_none held]
    exact Track.SettingsFrom.scheduled (.same rfl rfl) taking

theorem followed_settings (t : Track) (ch : Channel) (target : LockState) (edge taking : Tick) (tprev ticks : Nat)
    (unsteady virtual : Bool) : t.SettingsFrom (t.followed ch target edge taking tprev ticks unsteady virtual) := by
  unfold Track.followed
  dsimp only
  split
  · exact (turned_settings _ ch edge taking virtual).before rfl rfl
  · exact Track.SettingsFrom.scheduled (.same rfl rfl) taking

theorem outOfPace_settings (t : Track) (edge : Tick) (i : Nat) : t.SettingsFrom (t.outOfPace edge i) :=
  (settledNow_settings _).before rfl rfl

theorem stalledOut_settings (t : Track) : t.SettingsFrom t.stalledOut := (settledNow_settings _).before rfl rfl

theorem lockedEdge_settings (t : Track) (ch : Channel) (ref edge taking : Tick) :
    t.SettingsFrom (t.lockedEdge ch ref edge taking) := by
  unfold Track.lockedEdge
  dsimp only
  split
  · exact followed_settings ..
  · exact outOfPace_settings ..

theorem edged_settings (t : Track) (ch : Channel) (edge taking : Tick) : t.SettingsFrom (t.edged ch edge taking) := by
  unfold Track.edged
  split
  · exact .same rfl rfl
  · unfold Track.acquired
    dsimp only
    split
    · exact Track.SettingsFrom.scheduled (.same rfl rfl) taking
    · exact .same rfl rfl
  · exact .same rfl rfl
  · exact lockedEdge_settings ..
  · exact .same rfl rfl
  · exact followed_settings ..
  · exact .same rfl rfl

theorem lineChanged_settings (t : Track) (high : Bool) (now : Tick) : t.SettingsFrom (t.lineChanged high now) := by
  unfold Track.lineChanged
  split
  · exact .same rfl rfl
  · exact .same rfl rfl

/-! ### The law of a channel -/

/-- A channel that follows pulses. -/
theorem trackLaw_following {t : Track} (follows : t.lock.following = true) (tprev : t.tprev.isSome) (deadline : t.deadlineFrom.isSome)
    (index : t.p < t.settings.z) (c : t.c ≤ 4) (closed : t.closedCount ≤ max32) (stalls : t.stallCount ≤ max16) : TrackLaw t := by
  refine ⟨fun idle => by simp [follows] at idle, fun _ => ⟨tprev, deadline, index⟩, fun off => ?_, fun stalled => ?_,
    fun acquiring => ?_, c, closed, stalls⟩
  · simp [off, LockState.following] at follows
  · simp [stalled, LockState.following] at follows
  · simp [acquiring, LockState.following] at follows

theorem scheduled_law {t : Track} (law : TrackLaw t) (taking : Tick) : TrackLaw (t.scheduled taking) := by
  cases follows : t.lock.following with
  | false => rwa [scheduled_not_following follows]
  | true =>
    obtain ⟨-, following, -, -, -, c, closed, stalls⟩ := law
    obtain ⟨tprev, deadline, index⟩ := following follows
    rw [scheduled_following follows]
    exact trackLaw_following follows tprev deadline index c closed stalls

theorem turnedOff_law {t : Track} (rev : t.rev = none) (strobes : t.strobes = none) (staged : t.staged = none)
    (closed : t.closedCount ≤ max32) (stalls : t.stallCount ≤ max16) : TrackLaw t.turnedOff :=
  ⟨fun _ => ⟨rev, strobes, rfl, staged⟩, nofun, fun _ => ⟨rfl, rfl, rfl, rfl⟩, nofun, nofun, Nat.zero_le _, closed, stalls⟩

/-- A channel in ACQUIRING with nothing pending. -/
theorem trackLaw_acquiring {t : Track} (acquiring : t.lock = .acquiring) (rev : t.rev = none) (strobes : t.strobes = none)
    (deadline : t.deadlineFrom = none) (staged : t.staged = none) (c : t.c ≤ 3) (closed : t.closedCount ≤ max32)
    (stalls : t.stallCount ≤ max16) : TrackLaw t := by
  refine ⟨fun _ => ⟨rev, strobes, deadline, staged⟩, ?_, ?_, ?_, fun _ => c, c.trans (by decide), closed, stalls⟩ <;> simp [acquiring, LockState.following]

/-- Settings applied to a channel that does not follow pulses (R19). -/
theorem applied_law {t : Track} {new : TrackSettings} (idle : t.lock.following = false) (law : TrackLaw { t with staged := none }) :
    TrackLaw (t.applied new) := by
  obtain ⟨pending, -, off, stalled, acquiring, c, closed, stalls⟩ := law
  obtain ⟨rev, strobes, deadline, -⟩ := pending idle
  dsimp only at rev strobes deadline off stalled acquiring c closed stalls
  unfold Track.applied
  dsimp only
  split
  next lock =>
    obtain ⟨count, tprev, ref, transition⟩ := off lock
    split
    · exact trackLaw_acquiring rfl rev strobes deadline rfl (Nat.zero_le _) closed stalls
    · refine ⟨fun _ => ⟨rev, strobes, deadline, rfl⟩, fun follows => ?_, fun _ => ⟨count, tprev, ref, ?_⟩, fun other => ?_, fun other => ?_,
        c, closed, stalls⟩
      · simp [withSettings_lock, lock, LockState.following] at follows
      · simp [Track.withSettings, transition]
      · simp [withSettings_lock, lock] at other
      · simp [withSettings_lock, lock] at other
  next lock =>
    split
    · split
      · exact trackLaw_acquiring lock rev strobes deadline rfl (Nat.zero_le _) closed stalls
      · exact trackLaw_acquiring lock rev strobes deadline rfl (acquiring lock) closed stalls
    · exact turnedOff_law rev strobes rfl closed stalls
  next lock =>
    split
    · refine ⟨fun _ => ⟨rev, strobes, deadline, rfl⟩, fun follows => ?_, fun other => ?_, fun _ => stalled lock, fun other => ?_, c,
        closed, stalls⟩
      · simp [withSettings_lock, lock, LockState.following] at follows
      · simp [withSettings_lock, lock] at other
      · simp [withSettings_lock, lock] at other
    · exact turnedOff_law rev strobes rfl closed stalls
  next lock => simp [lock, LockState.following] at idle
  next lock => simp [lock, LockState.following] at idle

theorem settledNow_law {t : Track} (idle : t.lock.following = false) (law : TrackLaw { t with staged := none }) :
    TrackLaw t.settledNow := by
  cases staged : t.staged with
  | none =>
    rw [settledNow_none staged]
    rwa [show ({ t with staged := none } : Track) = t by rw [← staged]] at law
  | some new => rw [settledNow_some staged]; exact applied_law idle law

theorem outOfPace_law {t : Track} (law : TrackLaw t) (edge : Tick) (i : Nat) : TrackLaw (t.outOfPace edge i) := by
  obtain ⟨-, -, -, -, -, -, closed, stalls⟩ := law
  exact settledNow_law rfl (trackLaw_acquiring rfl rfl rfl rfl rfl (Nat.zero_le _) closed stalls)

theorem stalledOut_law {t : Track} (law : TrackLaw t) : TrackLaw t.stalledOut := by
  obtain ⟨-, -, -, -, -, c, closed, -⟩ := law
  refine settledNow_law rfl ⟨fun _ => ⟨rfl, rfl, rfl, rfl⟩, nofun, nofun, fun _ => rfl, nofun, c, closed, ?_⟩
  exact Nat.min_le_left _ _

/-- Settings applied at a close, where the index is 0 (R20). -/
theorem appliedAtClose_law {t : Track} (follows : t.lock.following = true) (tprev : t.tprev.isSome) (deadline : t.deadlineFrom.isSome)
    (index : t.p = 0) (positive : 0 < t.settings.z) (staged : ∀ new, t.staged = some new → 0 < new.z) (c : t.c ≤ 4)
    (closed : t.closedCount ≤ max32) (stalls : t.stallCount ≤ max16) : TrackLaw t.appliedAtClose := by
  cases held : t.staged with
  | none =>
    rw [appliedAtClose_none held]
    exact trackLaw_following follows tprev deadline (index ▸ positive) c closed stalls
  | some new =>
    rw [appliedAtClose_some held]
    unfold Track.effected
    split
    · exact turnedOff_law rfl rfl rfl closed stalls
    · split
      · exact trackLaw_acquiring rfl rfl rfl rfl rfl (Nat.zero_le _) closed stalls
      · exact trackLaw_following follows tprev deadline (show t.p < new.z from index ▸ staged new held) c closed stalls

theorem turned_law {t : Track} (ch : Channel) (edge taking : Tick) (virtual : Bool) (follows : t.lock.following = true)
    (tprev : t.tprev.isSome) (deadline : t.deadlineFrom.isSome) (index : t.p = 0) (positive : 0 < t.settings.z)
    (staged : ∀ new, t.staged = some new → 0 < new.z) (c : t.c ≤ 4) (closed : t.closedCount ≤ max32) (stalls : t.stallCount ≤ max16) :
    TrackLaw (t.turned ch edge taking virtual) := by
  cases held : t.rev with
  | some rev =>
    rw [turned_open held]
    refine scheduled_law ?_ taking
    exact appliedAtClose_law follows tprev deadline index positive staged c (wrap32_le _) stalls
  | none =>
    rw [turned_none held]
    refine scheduled_law ?_ taking
    exact trackLaw_following follows tprev deadline (show t.p < t.settings.z from index ▸ positive) c closed stalls

theorem positive_of_inRange {t : TrackSettings} {ch : Channel} (h : t.InRange ch) : 0 < t.z := by
  obtain ⟨z, -⟩ := h
  exact Nat.pos_of_ne_zero fun zero => absurd (zero ▸ z) (by decide)

theorem followed_law {t : Track} {ch : Channel} (allowed : t.Allowed ch) (law : TrackLaw t) {target : LockState}
    (follows : target.following = true) (edge taking : Tick) (tprev ticks : Nat) (unsteady virtual : Bool) :
    TrackLaw (t.followed ch target edge taking tprev ticks unsteady virtual) := by
  obtain ⟨-, -, -, -, -, c, closed, stalls⟩ := law
  have positive := positive_of_inRange allowed.1
  unfold Track.followed
  dsimp only
  split
  next index =>
    exact turned_law ch edge taking virtual follows rfl rfl index positive (fun new held => positive_of_inRange (allowed.2 new held)) c
      closed stalls
  next =>
    refine scheduled_law ?_ taking
    exact trackLaw_following follows rfl rfl (Nat.mod_lt _ positive) c closed stalls

theorem countAfter_le {t : Track} (c : t.c ≤ 3) (i : Nat) : t.countAfter i ≤ 4 := by
  unfold Track.countAfter
  split
  · split <;> omega
  · omega

theorem acquired_law {t : Track} {ch : Channel} (allowed : t.Allowed ch) (law : TrackLaw t) (acquiring : t.lock = .acquiring)
    (ref edge taking : Tick) : TrackLaw (t.acquired ch ref edge taking) := by
  obtain ⟨pending, -, -, -, count, -, closed, stalls⟩ := law
  obtain ⟨rev, strobes, deadline, staged⟩ := pending (by simp [acquiring, LockState.following])
  have four := countAfter_le (count acquiring) (intervalOf ref edge)
  unfold Track.acquired
  dsimp only
  split
  · refine scheduled_law ?_ taking
    exact trackLaw_following rfl rfl rfl (positive_of_inRange allowed.1) four closed stalls
  next fewer => exact trackLaw_acquiring acquiring rev strobes deadline staged (Nat.lt_succ_iff.1 (Nat.lt_of_not_le fewer)) closed stalls

theorem edged_law {t : Track} {ch : Channel} (allowed : t.Allowed ch) (law : TrackLaw t) (edge taking : Tick) :
    TrackLaw (t.edged ch edge taking) := by
  have law' := law
  obtain ⟨pending, following, off, stalled, count, c, closed, stalls⟩ := law'
  unfold Track.edged
  split
  · exact law
  next ref lock _ => exact acquired_law allowed law lock ref edge taking
  next lock _ =>
    obtain ⟨rev, strobes, deadline, staged⟩ := pending (by simp [lock, LockState.following])
    exact trackLaw_acquiring lock rev strobes deadline staged (count lock) closed stalls
  next ref _ _ =>
    unfold Track.lockedEdge
    dsimp only
    split
    · exact followed_law allowed law rfl ..
    · exact outOfPace_law law edge _
  next lock _ =>
    have follows : t.lock.following = true := by simp [lock, LockState.following]
    obtain ⟨tprev, deadline, index⟩ := following follows
    exact trackLaw_following follows tprev deadline index c closed stalls
  next => exact followed_law allowed law rfl ..
  next lock =>
    obtain ⟨rev, strobes, deadline, staged⟩ := pending (by simp [lock, LockState.following])
    exact trackLaw_acquiring rfl rev strobes deadline staged (Nat.zero_le _) closed stalls

/-- The law does not read the filter of a channel that is not OFF, nor the level of its line. -/
theorem trackLaw_of_transition {t : Track} (law : TrackLaw t) {x : Option Transition} (off : t.lock = .off → x = none) (high : Bool) :
    TrackLaw { t with line := high, transition := x } := by
  obtain ⟨pending, following, wasOff, rest⟩ := law
  refine ⟨pending, following, fun lock => ?_, rest⟩
  obtain ⟨c, tprev, ref, -⟩ := wasOff lock
  exact ⟨c, tprev, ref, off lock⟩

theorem lineChanged_law {t : Track} (law : TrackLaw t) (high : Bool) (now : Tick) : TrackLaw (t.lineChanged high now) := by
  unfold Track.lineChanged
  split
  · exact law
  · exact trackLaw_of_transition law (fun off => if_pos off) high

theorem afterStartUp_law (line : Bool) (settings : TrackSettings) : TrackLaw (Track.afterStartUp line settings) := by
  cases enable : settings.enable with
  | true =>
    have lock : (Track.afterStartUp line settings).lock = .acquiring := by simp [Track.afterStartUp, enable]
    exact trackLaw_acquiring lock rfl rfl rfl rfl (Nat.zero_le _) (Nat.zero_le _) (Nat.zero_le _)
  | false =>
    have off : Track.afterStartUp line settings = (Track.afterStartUp line settings).turnedOff := by
      simp [Track.afterStartUp, Track.turnedOff, enable]
    rw [off]
    exact turnedOff_law rfl rfl rfl (Nat.zero_le _) (Nat.zero_le _)

end Sys2Proof.Machine
end

section
set_option Elab.async false
/-! The channels through a command. -/

namespace Sys2Proof.Machine

/-! ### What a command may make of a channel -/

/-- From `t` to `u` a channel's settings stand or become the staged ones, and its law is kept. -/
def Track.Moves (ch : Channel) (t u : Track) : Prop := t.SettingsFrom u ∧ (t.Allowed ch → TrackLaw t → TrackLaw u)

theorem Track.Moves.refl (ch : Channel) (t : Track) : t.Moves ch t := ⟨.same rfl rfl, fun _ => id⟩

theorem moves_of_set {s t : State} {ch : Channel} {u : Track} (trk : t.trk = s.trk.set ch u) (moves : (s.track ch).Moves ch u)
    (o : Channel) : (s.track o).Moves o (t.track o) := by
  rw [State.track_def t, trk, PerChannel.get_set]
  split
  next same => subst same; exact moves
  next => exact .refl o _

theorem moves_of_same {s t : State} (trk : t.trk = s.trk) (o : Channel) : (s.track o).Moves o (t.track o) := by
  rw [State.track_def t, trk]
  exact .refl o _

theorem edged_moves (t : Track) (ch : Channel) (edge taking : Tick) :
    t.Moves ch (({ t with transition := none } : Track).edged ch edge taking) := by
  refine ⟨(edged_settings { t with transition := none } ch edge taking).before rfl rfl, fun allowed law => ?_⟩
  exact edged_law (t := { t with transition := none }) allowed (trackLaw_of_transition law (fun _ => rfl) t.line) edge taking

theorem virtualEdge_trk (s : State) (ch : Channel) :
    (s.virtualEdge ch).trk =
      s.trk.set ch ((s.track ch).followed ch .holdover s.now s.now ((s.track ch).tprev.getD 0) ((s.track ch).tprev.getD 0) false
        true) := by
  unfold State.virtualEdge
  exact followEdge_trk ..

theorem fireStrobe_trk (s : State) (ch : Channel) (r : StrobeRun) :
    (s.fireStrobe ch r).trk = s.trk.set ch { s.track ch with strobes := some { r with next := r.next + 1 } } := by
  unfold State.fireStrobe
  rw [takeStrobe_trk, State.setTrack_trk]

theorem strobe_moves {t : Track} {r : StrobeRun} (held : t.strobes = some r) (ch : Channel) (r' : StrobeRun) :
    t.Moves ch { t with strobes := some r' } := by
  refine ⟨.same rfl rfl, fun _ law => ?_⟩
  obtain ⟨pending, rest⟩ := law
  refine ⟨fun idle => ?_, rest⟩
  have none := (pending idle).2.1
  exact absurd (none.symm.trans held) nofun

theorem line_moves (t : Track) (ch : Channel) (high : Bool) : t.Moves ch { t with line := high } :=
  ⟨.same rfl rfl, fun _ law => law⟩

theorem pulse_moves (s : State) (ch : Channel) (high : Bool) (tick : Tick) (o : Channel) :
    (s.track o).Moves o ((s.pulse ch high tick).track o) := by
  unfold State.pulse
  split
  · exact moves_of_set rfl (line_moves _ ch high) o
  · exact moves_of_set rfl (line_moves _ ch high) o
  · exact moves_of_set rfl ⟨lineChanged_settings .., fun _ law => lineChanged_law law high _⟩ o

/-- An event that keeps the part alive moves its channels so. -/
theorem Occurs.tracks {s t : State} {c : Instr} (h : Occurs s c t) :
    Aspect.phase ∈ ownFree c ∨ ∀ ch, (s.track ch).Moves ch (t.track ch) := by
  by_cases free : Aspect.trk ∈ ownFree c
  · cases h with
    | powerOn | startupEnd | resetBegin | powerLoss => exact .inl (by simp [ownFree, Aspect.all])
    | pulse ch high tick => exact .inr (pulse_moves s ch high tick)
    | countedEdge ch x running held =>
      exact .inr (moves_of_set (s := s) (confirmEdge_trk (s.advance (x.seenAt + x.filter)) ch x) (edged_moves ..))
    | virtualEdge ch due running locked deadline =>
      refine .inr (moves_of_set (s := s) (virtualEdge_trk (s.advance due) ch) ⟨followed_settings .., fun allowed law => ?_⟩)
      exact followed_law allowed law rfl ..
    | holdoverDeadline ch due running holdover deadline =>
      exact .inr (moves_of_set (s := s) (stall_trk (s.advance due) ch) ⟨stalledOut_settings _, fun _ law => stalledOut_law law⟩)
    | strobe ch r due running left at' =>
      exact .inr (moves_of_set (s := s) (fireStrobe_trk (s.advance due) ch r) (strobe_moves left ch _))
    | _ => simp [ownFree] at free
  · exact .inr (moves_of_same (h.evolves .trk (by simpa using free)))

/-! ### Requests -/

/-- A channel without its revolution and its strobes, where it had one (R12, R28). -/
def Track.discarded (t : Track) : Track := if t.rev.isSome then { t with rev := none, strobes := none } else t

theorem discardIfOpen_trk (s : State) (ch : Channel) : (s.discardIfOpen ch).trk = s.trk.set ch (s.track ch).discarded := by
  unfold State.discardIfOpen Track.discarded
  split
  · exact discardRevolution_trk s ch
  · exact (PerChannel.set_get_self ..).symm

theorem stripped_track (s : State) (ch : Channel) : s.stripped.track ch = (s.track ch).discarded := by
  rw [State.track, State.stripped, dropScan_trk, dropScan_trk, dropScan_trk]
  cases ch <;> simp [discardIfOpen_trk, State.track, PerChannel.get_set]

theorem replaceTable_track (s : State) (t : ScanTable) (ch : Channel) : (s.replaceTable t).track ch = (s.track ch).discarded := by
  have moved (u : State) (va : Fin 6) : (u.moveInput va).trk = u.trk := moveInput_evolves u va .trk (by decide)
  have fold (u : State) : (allVa.foldl State.moveInput u).trk = u.trk :=
    foldl_rel (R := fun u v : State => v.trk = u.trk) (fun _ => rfl) (fun h k => k.trans h) moved allVa u
  rw [← stripped_track, replaceTable_eq]
  exact congrArg (fun trk => PerChannel.get trk ch) (fold _)

theorem discarded_settings (t : Track) : t.SettingsFrom t.discarded := by
  unfold Track.discarded
  split <;> exact .same rfl rfl

theorem discarded_law {t : Track} (law : TrackLaw t) : TrackLaw t.discarded := by
  unfold Track.discarded
  split
  · obtain ⟨pending, rest⟩ := law
    refine ⟨fun idle => ?_, rest⟩
    obtain ⟨-, -, deadline, staged⟩ := pending idle
    exact ⟨rfl, rfl, deadline, staged⟩
  · exact law

/-- The settings of every channel, in force and staged, are allowed ones. -/
def TracksAllowed (s : State) : Prop := ∀ ch, (s.track ch).Allowed ch

theorem serveSetTrack_track (f : TrackFields) (s : State) (o : Channel) :
    (serveSetTrack f s).1.track o = s.track o
      ∨ ((trackSettingsOf f).InRange o ∧ (s.track o).lock.following = true
          ∧ (serveSetTrack f s).1.track o = { s.track o with staged := some (trackSettingsOf f) })
      ∨ ((trackSettingsOf f).InRange o ∧ (s.track o).lock.following = false
          ∧ (serveSetTrack f s).1.track o = (s.track o).applied (trackSettingsOf f)) := by
  unfold serveSetTrack
  split
  · exact .inl rfl
  next ch _ =>
    split
    next allowed =>
      have inRange := (allowed_iff _ ch).1 allowed
      by_cases same : o = ch
      · subst same
        split
        next follows => exact .inr (.inl ⟨inRange, follows, State.track_setTrack_self ..⟩)
        next idle =>
          refine .inr (.inr ⟨inRange, by simpa using idle, ?_⟩)
          rw [State.track_def, applyNow_trk, PerChannel.get_set_self]
      · refine .inl ?_
        split
        · exact State.track_setTrack_ne s _ same
        · rw [State.track_def, applyNow_trk, PerChannel.get_set_ne _ _ same]
          rfl
    · exact .inl rfl

theorem applied_allowed {t : Track} {new : TrackSettings} {ch : Channel} (inRange : new.InRange ch) : (t.applied new).Allowed ch :=
  ⟨(applied_settings t new).symm ▸ inRange, fun _ held => absurd ((applied_staged t new).symm.trans held) nofun⟩

theorem staged_law {t : Track} (law : TrackLaw t) (follows : t.lock.following = true) (new : TrackSettings) :
    TrackLaw { t with staged := some new } := by
  obtain ⟨-, rest⟩ := law
  exact ⟨fun idle => absurd (follows.symm.trans idle) nofun, rest⟩

theorem unstaged_law {t : Track} (law : TrackLaw t) : TrackLaw { t with staged := none } := by
  obtain ⟨pending, rest⟩ := law
  refine ⟨fun idle => ?_, rest⟩
  obtain ⟨rev, strobes, deadline, -⟩ := pending idle
  exact ⟨rev, strobes, deadline, rfl⟩

theorem answer_tracks (r : Request) {u : State} (allowed : TracksAllowed u) :
    TracksAllowed (u.answer r).1 ∧ (TrackingLaw u → TrackingLaw (u.answer r).1) := by
  by_cases free : Aspect.trk ∈ freeIn r
  · cases r with
    | setTrack f =>
      change TracksAllowed (serveSetTrack f u).1 ∧ (_ → TrackingLaw (serveSetTrack f u).1)
      constructor
      · intro ch
        rcases serveSetTrack_track f u ch with same | ⟨inRange, -, staged⟩ | ⟨inRange, -, applied⟩
        · rw [same]; exact allowed ch
        · rw [staged]
          exact ⟨(allowed ch).1, fun new held => Option.some.inj held ▸ inRange⟩
        · rw [applied]; exact applied_allowed inRange
      · intro law ch
        rcases serveSetTrack_track f u ch with same | ⟨-, follows, staged⟩ | ⟨-, idle, applied⟩
        · rw [same]; exact law ch
        · rw [staged]; exact staged_law (law ch) follows _
        · rw [applied]; exact applied_law idle (unstaged_law (law ch))
    | setScan f =>
      change TracksAllowed (serveSetScan f u).1 ∧ (_ → TrackingLaw (serveSetScan f u).1)
      unfold serveSetScan
      split
      · exact ⟨allowed, id⟩
      · split
        · split
          · refine ⟨fun ch => ?_, fun law ch => ?_⟩
            · rw [replaceTable_track]; exact (discarded_settings _).allowed (allowed ch)
            · rw [replaceTable_track]; exact discarded_law (law ch)
          · exact ⟨allowed, id⟩
        · exact ⟨allowed, id⟩
    | _ => simp [freeIn] at free
  · have trk : (u.answer r).1.trk = u.trk := answer_evolves u r .trk free
    have track (ch : Channel) : (u.answer r).1.track ch = u.track ch := congrArg (PerChannel.get · ch) trk
    exact ⟨fun ch => (track ch).symm ▸ allowed ch, fun law ch => (track ch).symm ▸ law ch⟩

/-! ### Start-up -/

theorem loadedFrom_track (s : State) (image : Image) (ch : Channel) :
    (s.loadedFrom image).track ch = Track.afterStartUp (s.track ch).line (image.track.get ch) := by cases ch <;> rfl

theorem unpowered_track (s : State) (ch : Channel) :
    s.unpowered.track ch = (s.track ch).unpowered (TrackSettings.defaults.get ch) := by cases ch <;> rfl

theorem unpowered_law (t : Track) (settings : TrackSettings) : TrackLaw (t.unpowered settings) := by
  have off : t.unpowered settings = (t.unpowered settings).turnedOff := rfl
  rw [off]
  exact turnedOff_law rfl rfl rfl (Nat.zero_le _) (Nat.zero_le _)

/-- Every channel's settings in an image are allowed ones. -/
def Image.TracksInRange (image : Image) : Prop := ∀ ch, (image.track.get ch).InRange ch

theorem defaults_tracksInRange : Image.defaults.TracksInRange := fun ch => by
  cases ch <;> exact (allowed_iff _ _).1 (by decide)

/-- Start-up leaves every channel lawful, with the settings of a good image. -/
theorem startUp_tracks {s : State} (stored : ∀ image, s.sst.image = .valid image → image.TracksInRange) :
    TracksAllowed s.startUp ∧ TrackingLaw s.startUp := by
  obtain ⟨image, inRange, loaded⟩ := startUp_loads stored defaults_tracksInRange
  have track (ch : Channel) : s.startUp.track ch = Track.afterStartUp (s.track ch).line (image.track.get ch) := by
    rcases loaded with loaded | loaded
    · rw [loaded, loadedFrom_track]
    · rw [loaded, ← loadedFrom_track]; rfl
  refine ⟨fun ch => ?_, fun ch => ?_⟩
  · rw [track]; exact ⟨inRange ch, nofun⟩
  · rw [track]; exact afterStartUp_law ..

theorem unpowered_tracks (s : State) : TracksAllowed s.unpowered ∧ TrackingLaw s.unpowered := by
  refine ⟨fun ch => ?_, fun ch => ?_⟩
  · rw [unpowered_track]; exact ⟨defaults_tracksInRange ch, nofun⟩
  · rw [unpowered_track]; exact unpowered_law ..

/-! ### A command -/

theorem tracks_carried {s t : State} (h : ∀ a ∈ [Aspect.trk], a.Kept s t) (ch : Channel) : t.track ch = s.track ch :=
  congrArg (PerChannel.get · ch) (h .trk (by simp))

theorem Happens.tracks {s t : State} {c : Instr} (h : Happens s c t)
    (stored : ∀ image, s.sst.image = .valid image → image.TracksInRange) (allowed : TracksAllowed s) :
    TracksAllowed t ∧ (TrackingLaw s → TrackingLaw t) := by
  have moved {t : State} (moves : ∀ ch, (s.track ch).Moves ch (t.track ch)) : TracksAllowed t ∧ (TrackingLaw s → TrackingLaw t) :=
    ⟨fun ch => (moves ch).1.allowed (allowed ch), fun law ch => (moves ch).2 (allowed ch) (law ch)⟩
  refine h.keeps (L := fun v => TracksAllowed v ∧ (TrackingLaw s → TrackingLaw v)) [.trk] ?_ (by decide) ?_ ?_ ⟨allowed, id⟩
  · rintro u v kept ⟨good, law⟩
    exact ⟨fun ch => tracks_carried kept ch ▸ good ch, fun before ch => tracks_carried kept ch ▸ law before ch⟩
  · rintro r - u - ⟨good, law⟩
    obtain ⟨good', law'⟩ := answer_tracks r good
    exact ⟨good', law' ∘ law⟩
  · intro free event _
    have tracks := event.tracks
    cases event with
    | powerOn =>
      obtain ⟨good, law⟩ := startUp_tracks (unpowered_stored stored)
      exact ⟨good, fun _ => law⟩
    | resetBegin tick running ready =>
      obtain ⟨good, law⟩ := startUp_tracks (s := s.advance tick) stored
      exact ⟨good, fun _ => law⟩
    | powerLoss tick => exact ⟨(unpowered_tracks s).1, fun _ => (unpowered_tracks s).2⟩
    | startupEnd tick starting => exact ⟨allowed, id⟩
    | _ => exact moved (tracks.resolve_left (by simp [ownFree]))

end Sys2Proof.Machine
end

section
set_option Elab.async false
/-! Every setting stays within its rule: O10. -/

namespace Sys2Proof.Machine

/-! ### The owners of the inputs -/

/-- An averager input whose owner becomes `owner` has its record cleared at the new owner's N where that is another (R28). -/
def Sav.moved (v : Sav) (owner : Option Channel) (n : Channel → Nat) : Sav :=
  if owner = v.owner then v else ({ v with owner := owner } : Sav).cleared (owner.map n)

theorem moved_owner (v : Sav) (owner : Option Channel) (n : Channel → Nat) : (v.moved owner n).owner = owner := by
  unfold Sav.moved
  split
  next same => exact same.symm
  next => rfl

theorem moved_settings (v : Sav) (owner : Option Channel) (n : Channel → Nat) : (v.moved owner n).settings = v.settings := by
  unfold Sav.moved
  split <;> rfl

theorem moved_moved (v : Sav) (owner : Option Channel) (n : Channel → Nat) : (v.moved owner n).moved owner n = v.moved owner n := by
  rw [Sav.moved, moved_owner, if_pos rfl]

/-- N of each channel's settings in force. -/
def State.samplesOf (s : State) (ch : Channel) : Nat := (s.track ch).settings.n

theorem moveInput_get (s : State) (va o : Fin 6) :
    (s.moveInput va).sav.get o =
      if va = o then (s.sav.get o).moved (s.acq.table.owner (.va o)) s.samplesOf else s.sav.get o := by
  unfold State.moveInput Sav.moved
  dsimp only
  by_cases same : va = o
  · subst same
    rw [if_pos rfl]
    split
    · rfl
    · rw [clearTsa_get, if_pos rfl, State.setSav_sav, Tab.get_set_self]
      rfl
  · rw [if_neg same]
    split
    · rfl
    · rw [clearTsa_get, if_neg same, State.setSav_sav, Tab.get_set_ne _ _ same]

theorem moveInput_foldl_get (l : List (Fin 6)) (s : State) (o : Fin 6) :
    (l.foldl State.moveInput s).sav.get o =
      if o ∈ l then (s.sav.get o).moved (s.acq.table.owner (.va o)) s.samplesOf else s.sav.get o := by
  induction l generalizing s with
  | nil => simp
  | cons a l ih =>
    have trk : (s.moveInput a).trk = s.trk := moveInput_evolves s a .trk (by decide)
    have samples : (s.moveInput a).samplesOf = s.samplesOf := by
      funext ch
      simp only [State.samplesOf, State.track, trk]
    have table : (s.moveInput a).acq.table = s.acq.table := moveInput_evolves s a .table (by decide)
    simp only [List.foldl_cons, ih, samples, table, moveInput_get, List.mem_cons]
    by_cases e : a = o
    · subst e
      by_cases m : a ∈ l <;> simp [m, moved_moved]
    · simp [e, Ne.symm (a := a) (b := o) e]

theorem rewired_input (s : State) (t : ScanTable) (o : Fin 6) :
    (s.rewired t).sav.get o = (s.stripped.sav.get o).moved (t.owner (.va o)) s.stripped.samplesOf := by
  unfold State.rewired
  rw [moveInput_foldl_get, if_pos (mem_allVa o)]
  rfl

theorem replaceTable_sav (s : State) (t : ScanTable) : (s.replaceTable t).sav = (s.rewired t).sav := by rw [replaceTable_eq]

theorem replaceTable_table (s : State) (t : ScanTable) : (s.replaceTable t).acq.table = t := by
  have moved (u : State) (va : Fin 6) : (u.moveInput va).acq.table = u.acq.table := moveInput_evolves u va .table (by decide)
  have fold (u : State) : (allVa.foldl State.moveInput u).acq.table = u.acq.table :=
    foldl_rel (R := fun u v : State => v.acq.table = u.acq.table) (fun _ => rfl) (fun h k => k.trans h) moved allVa u
  rw [replaceTable_eq]
  exact fold _

/-! ### The settings of the other blocks -/

/-- Every setting but the channels' lies in its values, and each input's owner is the one the scan table gives. -/
structure OthersInRange (s : State) : Prop where
  table : s.acq.table.Valid
  input : ∀ va, (s.sav.get va).settings.InRange
  owner : ∀ va, (s.sav.get va).owner = s.acq.table.owner (.va va)
  grid : s.gra.settings.InRange
  regime : s.rgc.settings.InRange
  ice : s.icm.settings.InRange
  curve : CurveInRange s.icm.curve

/-- The aspects those settings are. -/
def settingAspects : List Aspect := [.table, .inputs, .gridSettings, .regimeSettings, .icingSettings]

theorem othersInRange_carried {s t : State} (h : ∀ a ∈ settingAspects, a.Kept s t) (good : OthersInRange s) : OthersInRange t := by
  have table : t.acq.table = s.acq.table := h .table (by decide)
  have inputs : ∀ va, (t.sav.get va).settings = (s.sav.get va).settings ∧ (t.sav.get va).owner = (s.sav.get va).owner :=
    h .inputs (by decide)
  have grid : t.gra.settings = s.gra.settings := h .gridSettings (by decide)
  have regime : t.rgc.settings = s.rgc.settings := h .regimeSettings (by decide)
  obtain ⟨ice, curve⟩ : t.icm.settings = s.icm.settings ∧ t.icm.curve = s.icm.curve := h .icingSettings (by decide)
  exact ⟨table ▸ good.table, fun va => (inputs va).1 ▸ good.input va, fun va => (inputs va).2 ▸ table ▸ good.owner va, grid ▸ good.grid,
    regime ▸ good.regime, ice ▸ good.ice, curve ▸ good.curve⟩

/-- A change that leaves all the settings but some, which are in range after it. -/
theorem replaceTable_othersInRange {s : State} {t : ScanTable} (valid : t.Valid) (good : OthersInRange s) :
    OthersInRange (s.replaceTable t) := by
  have evolves := replaceTable_evolves s t
  have grid : (s.replaceTable t).gra.settings = s.gra.settings := evolves .gridSettings (by decide)
  have regime : (s.replaceTable t).rgc.settings = s.rgc.settings := evolves .regimeSettings (by decide)
  obtain ⟨ice, curve⟩ : (s.replaceTable t).icm.settings = s.icm.settings ∧ (s.replaceTable t).icm.curve = s.icm.curve :=
    evolves .icingSettings (by decide)
  have stripped : ∀ va, (s.stripped.sav.get va).settings = (s.sav.get va).settings ∧ (s.stripped.sav.get va).owner = (s.sav.get va).owner :=
    stripped_evolves s .inputs (by decide)
  refine ⟨(replaceTable_table s t).symm ▸ valid, fun va => ?_, fun va => ?_, grid ▸ good.grid, regime ▸ good.regime, ice ▸ good.ice,
    curve ▸ good.curve⟩
  · rw [replaceTable_sav, rewired_input, moved_settings, (stripped va).1]
    exact good.input va
  · rw [replaceTable_sav, rewired_input, moved_owner, replaceTable_table]

theorem serveSetInput_othersInRange (f : InputFields) {s : State} (good : OthersInRange s) : OthersInRange (serveSetInput f s).1 := by
  unfold serveSetInput
  split
  next va _ =>
    split
    next valid =>
      have fits := (inputFieldsValid_iff f).1 valid
      refine ⟨good.table, fun o => ?_, fun o => ?_, good.grid, good.regime, good.ice, good.curve⟩
      · change ((Tab.get (s.sav.set va _) o)).settings.InRange
        rw [Tab.get_set]
        split
        · exact fits
        · exact good.input o
      · change ((Tab.get (s.sav.set va _) o)).owner = _
        rw [Tab.get_set]
        split
        next same => exact same ▸ good.owner va
        · exact good.owner o
    · exact good
  · exact good

theorem serveSetGrid_othersInRange (f : GridFields) {s : State} (good : OthersInRange s) : OthersInRange (serveSetGrid f s).1 := by
  unfold serveSetGrid
  split
  next valid =>
    obtain ⟨limits, voltage, current, kp⟩ := (gridFieldsValid_iff f).1 valid
    exact ⟨good.table, good.input, good.owner, ⟨(Tab.forall_mem_iff f.limits (· ≤ 9999)).1 limits, voltage, current, kp⟩, good.regime,
      good.ice, good.curve⟩
  · exact good

theorem serveSetRegime_othersInRange (f : RegimeFields) {s : State} (good : OthersInRange s) : OthersInRange (serveSetRegime f s).1 := by
  rw [serveSetRegime_eq]
  split
  next valid => exact ⟨good.table, good.input, good.owner, good.grid, regimeSet_inRange valid good.regime, good.ice, good.curve⟩
  · exact good

theorem serveSetProfile_othersInRange (f : ProfileFields) {s : State} (good : OthersInRange s) :
    OthersInRange (serveSetProfile f s).1 := by
  unfold serveSetProfile
  split
  next profile va _ _ =>
    split
    next valid =>
      exact ⟨good.table, good.input, good.owner, good.grid,
        rowWritten_inRange profile va ((profileFieldsValid_iff f).1 valid) good.regime, good.ice, good.curve⟩
    · exact good
  · exact good

theorem serveSetIce_othersInRange (f : IceFields) {s : State} (good : OthersInRange s) : OthersInRange (serveSetIce f s).1 := by
  unfold serveSetIce
  split
  next va _ =>
    split
    next valid =>
      exact ⟨good.table, good.input, good.owner, good.grid, good.regime, (iceFieldsValid_iff f va).1 valid, good.curve⟩
    · exact good
  · exact good

theorem serveSetCurve_othersInRange (points : List CurvePoint) {s : State} (good : OthersInRange s) :
    OthersInRange (serveSetCurve points s).1 := by
  unfold serveSetCurve
  split
  next valid => exact ⟨good.table, good.input, good.owner, good.grid, good.regime, good.ice, (curveFieldsValid_iff points).1 valid⟩
  · exact good

theorem serveSetScan_othersInRange (f : ScanFields) {s : State} (good : OthersInRange s) : OthersInRange (serveSetScan f s).1 := by
  unfold serveSetScan
  split
  · exact good
  next t _ =>
    split
    next lists =>
      split
      next disjoint => exact replaceTable_othersInRange ((table_valid_iff t).2 ⟨lists, disjoint⟩) good
      · exact good
    · exact good

theorem answer_othersInRange (r : Request) {u : State} (good : OthersInRange u) : OthersInRange (u.answer r).1 := by
  by_cases free : ∃ a ∈ settingAspects, a ∈ freeIn r
  · cases r with
    | setScan f => exact serveSetScan_othersInRange f good
    | setInput f => exact serveSetInput_othersInRange f good
    | setGrid f => exact serveSetGrid_othersInRange f good
    | setRegime f => exact serveSetRegime_othersInRange f good
    | setProfile f => exact serveSetProfile_othersInRange f good
    | setIce f => exact serveSetIce_othersInRange f good
    | setCurve points => exact serveSetCurve_othersInRange points good
    | _ => simp [freeIn, settingAspects] at free
  · exact othersInRange_carried (fun a ha => answer_evolves u r a fun mem => free ⟨a, ha, mem⟩) good

/-! ### Images and start-up -/

theorem contents_inRange_iff (s : State) :
    s.contents.InRange
      ↔ (∀ ch, (s.track ch).settings.InRange ch) ∧ s.acq.table.Valid ∧ (∀ va, (s.sav.get va).settings.InRange)
        ∧ s.gra.settings.InRange ∧ s.rgc.settings.InRange ∧ s.icm.settings.InRange ∧ CurveInRange s.icm.curve := by
  have inputs : (∀ va, ((s.sav.map Sav.settings).get va).InRange) ↔ ∀ va, (s.sav.get va).settings.InRange := by
    simp only [Tab.get_map]
  have tracks : (∀ ch, (s.track ch).settings.InRange ch)
      ↔ (s.trk.map Track.settings).tl.InRange .tl ∧ (s.trk.map Track.settings).th.InRange .th
        ∧ (s.trk.map Track.settings).tg.InRange .tg :=
    ⟨fun h => ⟨h .tl, h .th, h .tg⟩, fun ⟨tl, th, tg⟩ ch => by cases ch <;> assumption⟩
  rw [tracks, ← inputs]
  simp only [and_assoc]
  rfl

theorem settingsLaw_iff (s : State) : SettingsLaw s ↔ TracksAllowed s ∧ OthersInRange s ∧ s.sst.Holds Image.InRange := by
  rw [SettingsLaw, contents_inRange_iff]
  constructor
  · rintro ⟨⟨tracks, table, input, grid, regime, ice, curve⟩, held, staged, owner⟩
    exact ⟨fun ch => ⟨tracks ch, staged ch⟩, ⟨table, input, owner, grid, regime, ice, curve⟩, held⟩
  · rintro ⟨tracks, others, held⟩
    exact ⟨⟨fun ch => (tracks ch).1, others.table, others.input, others.grid, others.regime, others.ice, others.curve⟩, held,
      fun ch => (tracks ch).2, others.owner⟩

theorem contents_inRange {s : State} (tracks : TracksAllowed s) (others : OthersInRange s) : s.contents.InRange :=
  (contents_inRange_iff s).2
    ⟨fun ch => (tracks ch).1, others.table, others.input, others.grid, others.regime, others.ice, others.curve⟩

theorem Image.InRange.tracks {image : Image} (h : image.InRange) : image.TracksInRange := by
  obtain ⟨tl, th, tg, -⟩ := h
  intro ch
  cases ch <;> assumption

theorem inRange_ignoresIcing : IgnoresIcing Image.InRange := fun a b same inRange => by
  rw [same]
  exact inRange

theorem defaults_table_valid : ScanTable.defaults.Valid := (table_valid_iff _).2 (by decide)

theorem defaults_inRange : Image.defaults.InRange :=
  ⟨defaults_tracksInRange .tl, defaults_tracksInRange .th, defaults_tracksInRange .tg, defaults_table_valid,
    fun va => by simp only [Image.defaults, Tab.get_replicate]; exact (inputFieldsValid_iff ⟨0, 4, ⟨[1, 2, 3, 4], rfl⟩⟩).1 (by decide),
    by refine ⟨fun i => ?_, by decide, by decide, by decide⟩
       change (Tab.replicate 24 0).get i ≤ 9999
       simp,
    defaults_regime_inRange, by decide, by decide⟩

theorem loadedFrom_othersInRange (s : State) {image : Image} (inRange : image.InRange) : OthersInRange (s.loadedFrom image) := by
  obtain ⟨-, -, -, table, input, grid, regime, ice, curve⟩ := inRange
  refine ⟨table, fun va => ?_, fun va => ?_, grid, regime, ice, curve⟩
  · change ((Tab.ofFn image.savOf).get va).settings.InRange
    rw [Tab.get_ofFn]
    exact input va
  · change ((Tab.ofFn image.savOf).get va).owner = _
    rw [Tab.get_ofFn]
    rfl

theorem startUp_othersInRange {s : State} (stored : ∀ image, s.sst.image = .valid image → image.InRange) : OthersInRange s.startUp := by
  obtain ⟨image, inRange, loaded | loaded⟩ := startUp_loads stored defaults_inRange
  · rw [loaded]; exact loadedFrom_othersInRange s inRange
  · rw [loaded]
    exact othersInRange_carried (fun a _ => raise_evolves _ storeDefaultsAlert a (List.not_mem_nil)) (loadedFrom_othersInRange s inRange)

theorem unpowered_othersInRange (s : State) : OthersInRange s.unpowered := by
  have loaded := loadedFrom_othersInRange s defaults_inRange
  exact ⟨loaded.table, loaded.input, loaded.owner, loaded.grid, loaded.regime, loaded.ice, loaded.curve⟩

theorem othersInRange_kept {s t : State} {c : Instr} (h : Happens s c t)
    (stored : ∀ image, s.sst.image = .valid image → image.InRange) (good : OthersInRange s) : OthersInRange t := by
  refine h.keeps settingAspects othersInRange_carried (by decide) (fun r _ u _ => answer_othersInRange r) ?_ good
  intro free event good
  cases event with
  | powerOn => exact startUp_othersInRange (unpowered_stored stored)
  | resetBegin tick running ready => exact startUp_othersInRange (s := s.advance tick) stored
  | powerLoss tick => exact unpowered_othersInRange s
  | startupEnd tick starting => exact ⟨good.table, good.input, good.owner, good.grid, good.regime, good.ice, good.curve⟩
  | _ => simp [ownFree, settingAspects] at free

theorem Happens.settingsLaw {s t : State} {c : Instr} (h : Happens s c t) (law : SettingsLaw s) : SettingsLaw t := by
  rw [settingsLaw_iff] at law ⊢
  obtain ⟨tracks, others, held⟩ := law
  have tracks' := (h.tracks (fun image held' => (held.1 image held').tracks) tracks).1
  have others' := othersInRange_kept h held.1 others
  refine ⟨tracks', others', ?_⟩
  refine h.holds (L := fun u => TracksAllowed u ∧ OthersInRange u) inRange_ignoresIcing (fun good => contents_inRange good.1 good.2) ?_
    (fun r _ _ good => ⟨(answer_tracks r good.1).1, answer_othersInRange r good.2⟩) ⟨tracks, others⟩ ⟨tracks', others'⟩ held
  rintro u v step ⟨good, good'⟩
  refine ⟨fun ch => ?_, othersInRange_carried (fun a ha => step.1 a (by revert a; decide)) good'⟩
  rw [tracks_carried (fun a ha => step.1 a (by revert a; decide)) ch]
  exact good ch

/-- Settles O10: every request that carries settings checks them by their rule, staged settings were checked when they were staged,
and a copy for the store is taken of settings in force. -/
theorem settingsLawKept : Obligations.SettingsLawKept := step_keeps (fun _ _ law => law) fun _ _ _ => Happens.settingsLaw

end Sys2Proof.Machine
end

section
set_option Elab.async false
/-! The law of the link and of the write that SAVE waits for: each operation of the link keeps it, and every other one leaves the link
alone and can only put more into the store. -/

namespace Sys2Proof.Machine

/-! ### The reply order -/

theorem pendingPlaces_append (before after : List Place) :
    pendingPlaces (before ++ after) = pendingPlaces before + pendingPlaces after := by
  simp [pendingPlaces]

theorem pendingPlaces_cons (p : Place) (rest : List Place) :
    pendingPlaces (p :: rest) = bit p.reply.isNone + pendingPlaces rest := by
  cases h : p.reply <;> simp [pendingPlaces, h, bit, Nat.add_comm]

/-- The first pending place, if any, is pending no longer. -/
theorem pendingPlaces_fillFirst (r : Reply) (resets : Bool) (order : List Place) :
    pendingPlaces (fillFirst r resets order) = pendingPlaces order - 1 := by
  induction order with
  | nil => rfl
  | cons p rest ih =>
    cases reply : p.reply with
    | none => simp [fillFirst, reply, pendingPlaces_cons, bit]
    | some x => simp [fillFirst, reply, pendingPlaces_cons, bit, ih]

@[simp] theorem length_fillFirst (r : Reply) (resets : Bool) (order : List Place) :
    (fillFirst r resets order).length = order.length := by
  induction order with
  | nil => rfl
  | cons p rest ih => cases reply : p.reply <;> simp [fillFirst, reply, ih]

/-- The head of the reply order is ready. -/
def Lnk.headReady (l : Lnk) : Bool := l.order.head?.any fun p => p.reply.isSome

theorem headReady_fillFirst {l : Lnk} (ready : l.headReady = true) (r : Reply) (resets : Bool) :
    ({ l with order := fillFirst r resets l.order } : Lnk).headReady = true := by
  unfold Lnk.headReady at *
  cases order : l.order with
  | nil => simp [order] at ready
  | cons p rest => cases reply : p.reply <;> simp_all [fillFirst]

theorem headReady_append {l : Lnk} (ready : l.headReady = true) (p : Place) :
    ({ l with order := l.order ++ [p] } : Lnk).headReady = true := by
  unfold Lnk.headReady at *
  cases order : l.order with
  | nil => simp [order] at ready
  | cons q rest => simpa [order] using ready

/-- A kick starts to send exactly what is ready at the head. -/
theorem kicked_sending {l : Lnk} (ready : l.sending.isSome = true → l.headReady = true) :
    l.kicked.sending.isSome = l.headReady := by
  unfold Lnk.kicked Lnk.headReady at *
  cases sending : l.sending with
  | some bytes => simpa [sending] using (ready (by simp [sending])).symm
  | none =>
    cases order : l.order with
    | nil => simp [sending]
    | cons p rest =>
      obtain ⟨reply, resets⟩ := p
      cases reply <;> simp [sending]

theorem kicked_same (l : Lnk) : l.kicked = { l with sending := l.kicked.sending } := by
  unfold Lnk.kicked
  split <;> rfl

/-! ### The law between two steps of the link -/

/-- The law but for the request served, the waiting one, and the count of pending places; a head being sent is ready. -/
def LinkCore (s : State) : Prop :=
  s.lnk.order.length ≤ 16 ∧ (s.lnk.sending.isSome = true → s.lnk.headReady = true)
    ∧ (s.sst.pendingWrite = true → s.sst.inFlight.isSome = true) ∧ s.lnk.receiver.partial = true

/-- The law before a kick: a ready head may not be sent yet. -/
def LinkUnkicked (s : State) : Prop :=
  LinkCore s ∧ pendingPlaces s.lnk.order = bit s.lnk.serving.isSome + bit s.lnk.waiting.isSome
    ∧ (s.lnk.serving = none → s.lnk.waiting = none) ∧ s.sst.serves s.lnk.serving = true

/-- The link as a request finds it that is about to be served: one place is pending, its own. -/
def LinkServing (s : State) : Prop :=
  LinkCore s ∧ pendingPlaces s.lnk.order = 1 ∧ s.lnk.serving = none ∧ s.lnk.waiting = none

theorem LinkLaw.unkicked {s : State} (law : LinkLaw s) : LinkUnkicked s := by
  obtain ⟨room, places, waits, head, write, serves, part⟩ := law
  exact ⟨⟨room, fun sends => head.symm.trans sends, write, part⟩, places, waits, serves⟩

theorem LinkUnkicked.kick {s : State} (law : LinkUnkicked s) : LinkLaw s.kick := by
  obtain ⟨⟨room, head, write, part⟩, places, waits, serves⟩ := law
  have sent := kicked_sending head
  have same := kicked_same s.lnk
  unfold LinkLaw
  simp only [State.kick]
  rw [same]
  exact ⟨room, places, waits, sent, write, serves, part⟩

/-- The law reads the link and the store alone. -/
theorem LinkLaw.congr {s t : State} (lnk : t.lnk = s.lnk) (sst : t.sst = s.sst) (law : LinkLaw s) : LinkLaw t := by
  unfold LinkLaw
  rw [lnk, sst]
  exact law

theorem LinkServing.congr {s t : State} (lnk : t.lnk = s.lnk) (sst : t.sst = s.sst) (law : LinkServing s) : LinkServing t := by
  unfold LinkServing LinkCore
  rw [lnk, sst]
  exact law

/-- What the store does while a request or an event runs keeps the law. -/
theorem Writes.pendingFits {s t : State} (h : Writes s t) (write : s.sst.pendingWrite = true → s.sst.inFlight.isSome = true) :
    t.sst.pendingWrite = true → t.sst.inFlight.isSome = true := by
  obtain ⟨-, ⟨flight, pending⟩ | ⟨idle, pending, w, flight, -⟩⟩ := h
  · rw [flight]
    rcases pending with same | ⟨flying, -⟩
    · rw [same]; exact write
    · exact fun _ => flying
  · simp [flight]

theorem Writes.serves {s t : State} (h : Writes s t) {waits : Option SaveWaits} (serves : s.sst.serves waits = true) :
    t.sst.serves waits = true := by
  obtain ⟨-, ⟨flight, pending⟩ | ⟨idle, pending, w, flight, -⟩⟩ := h
  · match waits with
    | none => rfl
    | some .inFlight => simpa only [Sst.serves, flight] using serves
    | some .pending =>
      simp only [Sst.serves, flight, Bool.and_eq_true] at serves ⊢
      rcases pending with same | ⟨-, now⟩
      · rw [same]; exact serves
      · exact ⟨serves.1, now⟩
  · match waits with
    | none => rfl
    | some .inFlight | some .pending => simp [Sst.serves, idle] at serves

theorem Writes.linkLaw {s t : State} (h : Writes s t) (lnk : t.lnk = s.lnk) (law : LinkLaw s) : LinkLaw t := by
  obtain ⟨room, places, waits, head, write, serves, part⟩ := law
  unfold LinkLaw
  rw [lnk]
  exact ⟨room, places, waits, head, h.pendingFits write, h.serves serves, part⟩

theorem Writes.linkServing {s t : State} (h : Writes s t) (lnk : t.lnk = s.lnk) (law : LinkServing s) : LinkServing t := by
  obtain ⟨⟨room, head, write, part⟩, places, serving, waiting⟩ := law
  unfold LinkServing LinkCore
  rw [lnk]
  exact ⟨⟨room, head, h.pendingFits write, part⟩, places, serving, waiting⟩

/-! ### Places -/

theorem addPlace_core {s : State} (core : LinkCore s) (room : s.lnk.order.length < 16) (p : Place) : LinkCore (s.addPlace p) := by
  obtain ⟨-, head, write, part⟩ := core
  exact ⟨by simp; omega, fun sends => headReady_append (head sends) p, write, part⟩

theorem makeReady_core {s : State} (core : LinkCore s) (r : Reply) (resets : Bool) : LinkCore (s.makeReady r resets) := by
  obtain ⟨room, head, write, part⟩ := core
  exact ⟨by simpa using room, fun sends => headReady_fillFirst (head sends) r resets, write, part⟩

/-- A place that is ready at once changes nothing that is served. -/
theorem addReady_unkicked {s : State} (law : LinkUnkicked s) (room : s.lnk.order.length < 16) (r : Reply) :
    LinkUnkicked (s.addPlace ⟨some r, false⟩) := by
  obtain ⟨core, places, waits, serves⟩ := law
  refine ⟨addPlace_core core room _, (pendingPlaces_append _ _).trans ?_, waits, serves⟩
  exact places

theorem faultReply_linkLaw {s : State} (law : LinkLaw s) (room : s.lnk.order.length < 16) (type : Nat) (st : Status) :
    LinkLaw (s.faultReply type st) := (addReady_unkicked law.unkicked room _).kick

theorem drops_room {l : Lnk} (takes : l.drops = false) : l.order.length < 16 := by
  have bound := of_decide_eq_false takes
  simp only [orderCapacity] at bound
  omega

/-! ### Serving -/

/-- The place of the request served becomes ready. -/
theorem makeReady_unkicked {s : State} (law : LinkServing s) (r : Reply) (resets : Bool) : LinkUnkicked (s.makeReady r resets) := by
  obtain ⟨core, places, serving, waiting⟩ := law
  refine ⟨makeReady_core core r resets, ?_, fun _ => waiting, ?_⟩
  · simp [pendingPlaces_fillFirst, places, serving, waiting, bit]
  · simp [serving, Sst.serves]

theorem serveSave_unkicked {s : State} (law : LinkServing s) : LinkUnkicked s.serveSave := by
  obtain ⟨⟨room, head, write, part⟩, places, serving, waiting⟩ := law
  have writes : Writes s s.requestWrite := requestWrite_writes rfl rfl rfl
  refine ⟨⟨room, head, writes.pendingFits write, part⟩, ?_, nofun, ?_⟩
  · change pendingPlaces s.lnk.order = 1 + bit s.lnk.waiting.isSome
    simp [waiting, bit, places]
  · change s.requestWrite.sst.serves (some (if s.sst.inFlight.isSome then .pending else .inFlight)) = true
    rw [State.requestWrite_sst]
    cases flight : s.sst.inFlight with
    | none => simp [requested_idle, flight, Sst.serves]
    | some w => simp [requested_running, flight, Sst.serves]

theorem answer_lnk (s : State) (r : Request) : (s.answer r).1.lnk = s.lnk :=
  answer_evolves s r .lnk (by cases r <;> simp [freeIn])

theorem serve_unkicked {s : State} (law : LinkServing s) (r : Request) : LinkUnkicked (s.serve r) := by
  by_cases save : r = .save
  · subst save; exact serveSave_unkicked law
  · by_cases reset : r = .reset
    · subst reset
      exact makeReady_unkicked law (replyTo (requestType .reset) (.bare .ok)) true
    · rw [serve_answer s r save reset]
      exact makeReady_unkicked ((answer_writes s r).linkServing (answer_lnk s r) law) _ _

theorem dispatch_unkicked {s : State} (law : LinkLaw s) (room : s.lnk.order.length < 16) (r : Request) :
    LinkUnkicked (s.dispatch r) := by
  have unkicked := law.unkicked
  obtain ⟨core, places, waits, serves⟩ := unkicked
  unfold State.dispatch
  split
  next serving =>
    refine serve_unkicked ⟨addPlace_core core room _, ?_, serving, waits serving⟩ r
    simpa [pendingPlaces_append, pendingPlaces_cons, pendingPlaces, bit, serving, waits serving] using places
  next x serving waiting =>
    refine ⟨addPlace_core core room _, ?_, fun none => absurd (serving.symm.trans none) nofun, serves⟩
    simpa [pendingPlaces_append, pendingPlaces_cons, pendingPlaces, bit, serving, waiting] using places
  · exact addReady_unkicked ⟨core, places, waits, serves⟩ room _

theorem submit_linkLaw {s : State} (law : LinkLaw s) (r : Request) : LinkLaw (s.submit r) := by
  unfold State.submit
  split
  · exact law
  next takes => exact (dispatch_unkicked law (drops_room (by simpa using takes)) r).kick

/-! ### Receiving -/

theorem setReceiver_linkLaw {s : State} (law : LinkLaw s) {r : Receiver} (part : r.partial = true) : LinkLaw (s.setReceiver r) := by
  obtain ⟨room, places, waits, head, write, serves, -⟩ := law
  exact ⟨room, places, waits, head, write, serves, part⟩

theorem judgeFrame_linkLaw {s : State} (law : LinkLaw s) (body sum : List Byte) : LinkLaw (s.judgeFrame body sum) := by
  unfold State.judgeFrame
  dsimp only
  split
  · exact law
  next takes =>
    have room := drops_room (by simpa using takes)
    split
    · exact faultReply_linkLaw law room _ _
    · split
      · split
        · exact submit_linkLaw law _
        · exact faultReply_linkLaw law room _ _
      · exact faultReply_linkLaw law room _ _

theorem takeByte_linkLaw {s : State} (law : LinkLaw s) (b : Byte) : LinkLaw (s.takeByte b) := by
  unfold State.takeByte
  split
  · split
    · exact setReceiver_linkLaw law rfl
    · exact law
  · split
    next fits => exact setReceiver_linkLaw law (by simpa [Receiver.partial, payloadCapacity] using fits)
    · exact setReceiver_linkLaw law rfl
  next l rest last receiving =>
    have part : Receiver.partial (.receiving (l :: rest) last) = true := receiving ▸ law.2.2.2.2.2.2
    simp only [Receiver.partial, Bool.and_eq_true, decide_eq_true_eq] at part
    dsimp only
    split
    · exact judgeFrame_linkLaw (setReceiver_linkLaw law rfl) _ _
    next incomplete =>
      refine setReceiver_linkLaw law ?_
      simp only [List.cons_append, List.length_cons, List.length_append, List.length_nil] at incomplete
      simp only [Receiver.partial, List.cons_append, List.length_append, List.length_cons, List.length_nil, Bool.and_eq_true,
        decide_eq_true_eq]
      omega

theorem receive_linkLaw {s : State} (law : LinkLaw s) (a : Arrival) : LinkLaw (s.receive a) := by
  unfold State.receive
  split
  · exact law
  · split
    · exact takeByte_linkLaw law _
    · exact setReceiver_linkLaw (s := { s with lnk := { s.lnk with lineLow := _ } }) law rfl

/-! ### Replies and writes that end -/

theorem replySent_linkLaw {s : State} (law : LinkLaw s) : LinkLaw s.replySent := by
  unfold State.replySent
  split
  next bytes p rest sending order =>
    obtain ⟨room, places, waits, head, write, serves, part⟩ := law
    have ready : p.reply.isSome = true := by simpa [sending, order] using head.symm
    refine LinkUnkicked.kick ⟨⟨?_, fun sends => absurd sends nofun, write, part⟩, ?_, waits, serves⟩
    · exact (Nat.le_succ _).trans (by simpa [order] using room)
    · have shown : p.reply.isNone = false := by cases reply : p.reply <;> simp_all
      simpa [order, pendingPlaces_cons, shown, bit] using places
  · exact law

/-- A SAVE is answered and the waiting request is served: the write that completed left the store in order. -/
theorem answerSave_linkLaw {s : State} (core : LinkCore s) (places : pendingPlaces s.lnk.order = 1 + bit s.lnk.waiting.isSome)
    (success : Bool) : LinkLaw (s.answerSave success) := by
  unfold State.answerSave
  dsimp only
  set r := replyTo (requestType .save) (.bare (if success then .ok else .storeFault))
  have core' := makeReady_core core r false
  have places' : pendingPlaces (fillFirst r false s.lnk.order) = bit s.lnk.waiting.isSome := by
    rw [pendingPlaces_fillFirst, places]; omega
  refine LinkUnkicked.kick ?_
  unfold State.serveWaiting
  split
  next x waiting =>
    have held : s.lnk.waiting = some x := waiting
    have serving : LinkServing
        { s with lnk := { s.lnk with order := fillFirst r false s.lnk.order, serving := none, waiting := none } } :=
      ⟨core', by simpa [held, bit] using places', rfl, rfl⟩
    exact serve_unkicked serving x
  next waiting =>
    have held : s.lnk.waiting = none := waiting
    refine ⟨core', ?_, fun _ => held, rfl⟩
    simpa [held, bit] using places'

theorem completeWrite_linkLaw {s : State} (law : LinkLaw s) (w : StoreWrite) (success : Bool) :
    LinkLaw (s.completeWrite w success) := by
  obtain ⟨⟨room, head, write, part⟩, places, waits, serves⟩ := law.unkicked
  obtain ⟨-, -, -, sends, -⟩ := law
  unfold State.completeWrite
  dsimp only
  set done : State := { s with sst := s.sst.completed w success s.contents s.now } with done_def
  set t := if success then done else done.raise storeFaultAlert with t_def
  have lnk : t.lnk = s.lnk := by cases success <;> rfl
  have sst : t.sst = s.sst.completed w success s.contents s.now := by cases success <;> rfl
  have next (pending : t.sst.pendingWrite = true) : t.sst.inFlight.isSome = true := by simp [sst, Sst.completed] at pending
  have core : LinkCore t := ⟨lnk ▸ room, by rw [lnk]; exact head, next, lnk ▸ part⟩
  unfold State.reportWrite
  rw [lnk]
  split
  next none =>
    unfold LinkLaw
    rw [lnk]
    exact ⟨room, places, waits, sends, next, by simp [none, Sst.serves], part⟩
  next serving =>
    refine answerSave_linkLaw core ?_ success
    rw [lnk, places, serving]; rfl
  next serving =>
    have pending : s.sst.pendingWrite = true := by
      simp only [serving, Sst.serves, Bool.and_eq_true] at serves; exact serves.2
    refine ⟨room, ?_, nofun, sends, next, ?_, part⟩
    · simpa [serving] using places
    · simp [Sst.serves, sst, Sst.completed, pending]

/-! ### Every step -/

theorem advance_linkLaw {s : State} (law : LinkLaw s) (tick : Tick) : LinkLaw (s.advance tick) := law

theorem request_linkLaw {s : State} (law : LinkLaw s) (tick : Tick) (r : Request) : LinkLaw (s.whileRunning tick (State.submit r)) := by
  unfold State.whileRunning
  split
  · exact law
  · exact law
  · exact submit_linkLaw (s := s.advance tick) law r

theorem atDue_linkLaw {s : State} (law : LinkLaw s) (due : Option Tick) {f : State → State}
    (kept : ∀ u : State, LinkLaw u → LinkLaw (f u)) : LinkLaw (s.atDue due f) := by
  unfold State.atDue
  split
  · exact kept _ law
  · exact law

theorem whileRunning_linkLaw {s : State} (law : LinkLaw s) (tick : Tick) {f : State → State}
    (kept : ∀ u : State, LinkLaw u → LinkLaw (f u)) : LinkLaw (s.whileRunning tick f) := by
  unfold State.whileRunning
  split
  · exact law
  · exact law
  · exact kept _ law

theorem serialByte_linkLaw {s t : State} (law : LinkLaw s) (a : Arrival) (tick : Tick) (h : execSerialByte a tick s = .next t) :
    LinkLaw t := by
  unfold execSerialByte at h
  split at h <;> cases h
  · exact law
  · cases a with
    | byte b => exact law
    | fault low => exact law
  · exact receive_linkLaw (advance_linkLaw law tick) a

theorem lineReturnedHigh_linkLaw {s t : State} (law : LinkLaw s) (tick : Tick) (h : execLineReturnedHigh tick s = .next t) :
    LinkLaw t := by
  unfold execLineReturnedHigh at h
  split at h <;> cases h <;> exact law

/-- A start-up leaves nothing to send and nothing to write. -/
theorem startUp_linkLaw (s : State) : LinkLaw s.startUp := by
  have fresh : s.startUp.lnk = Lnk.afterStartUp s.lnk.lineLow := by
    unfold State.startUp
    split <;> rfl
  unfold LinkLaw
  rw [fresh, startUp_sst]
  exact ⟨Nat.zero_le _, rfl, fun _ => rfl, rfl, nofun, rfl, rfl⟩

theorem Occurs.linkLaw {s t : State} {c : Instr} (h : Occurs s c t) (law : LinkLaw s) : LinkLaw t := by
  have writes := h.writes
  have lnk (kept : Aspect.lnk ∉ ownFree c) : t.lnk = s.lnk := h.evolves .lnk (by simp [kept])
  cases h with
  | powerOn => exact startUp_linkLaw _
  | resetBegin tick running ready => exact startUp_linkLaw _
  | powerLoss tick => exact ⟨Nat.zero_le _, rfl, fun _ => rfl, rfl, nofun, rfl, rfl⟩
  | startupEnd tick starting =>
    have count : Writes s (s.advance tick).endStartup := ⟨rfl, .inl ⟨rfl, .inl rfl⟩⟩
    exact count.linkLaw rfl law
  | _ => exact (writes.resolve_left (by simp [ownFree])).linkLaw (lnk (by simp [ownFree])) law

/-- Only a frame or the end of a write brings a request that is not the command's own. -/
theorem requestIn_of_other {c : Instr} (other : aboutLink c = false) (row : c.request = none) (s : State) :
    s.requestIn c = none := by
  cases c with
  | serialByte | storeWriteComplete => exact absurd other nofun
  | _ => exact row

/-- What a command does keeps the law of the link. -/
theorem exec_linkLaw {c : Instr} {s t : State} (h : exec c s = .next t) (law : LinkLaw s) : LinkLaw t := by
  cases row : c.request with
  | some r =>
    rw [exec_request row] at h
    cases h
    exact request_linkLaw law _ r
  | none =>
    by_cases other : aboutLink c = false
    · cases exec_happens h with
      | stands step quiet => exact law.congr (quiet other).1 (quiet other).2
      | serves r running about served => exact absurd (requestIn_of_other other row s) (by simp [about])
      | occurs event => exact event.linkLaw law
    · cases c with
      | serialByte a tick => exact serialByte_linkLaw law a tick h
      | frameTimeout => cases h; exact atDue_linkLaw law _ fun u kept => setReceiver_linkLaw kept rfl
      | replySent tick => cases h; exact whileRunning_linkLaw law tick fun u => replySent_linkLaw
      | storeWriteComplete success tick =>
        cases h
        refine whileRunning_linkLaw law tick fun u kept => ?_
        unfold State.completeInFlight
        split
        · exact completeWrite_linkLaw kept _ success
        · exact kept
      | lineReturnedHigh tick => exact lineReturnedHigh_linkLaw law tick h
      | _ => simp [aboutLink, row] at other

/-- Settles O11: serving keeps one pending place for each request that is served or waits, and only a kick starts a reply. -/
theorem linkLawKept : Obligations.LinkLawKept :=
  step_carries (fun _ _ law => law) fun _ _ _ => exec_linkLaw

end Sys2Proof.Machine
end

section
set_option Elab.async false
/-! Every law at the reset state: its settings are the defaults, and every block is as a start-up leaves it. -/

namespace Sys2Proof.Machine

/-- The reset state holds what a start-up with a blank store would load. -/
theorem reset_contents : State.reset.contents = Image.defaults := rfl

theorem reset_track (ch : Channel) : State.reset.track ch = Track.afterStartUp false (TrackSettings.defaults.get ch) := by
  cases ch <;> rfl

theorem defaults_owner : ∀ va : Fin 6, ScanTable.defaults.owner (.va va) = some (if va.val < 2 then .tl else .th) := by decide

theorem reset_sav (va : Fin 6) :
    State.reset.sav.get va = Sav.afterStartUp InputSettings.defaults (ScanTable.defaults.owner (.va va)) 256 := by
  rw [defaults_owner]
  fin_cases va <;> rfl

theorem reset_alertLaw : AlertLaw State.reset := by
  exact ⟨by decide, List.pairwise_singleton .., fun _ => rfl⟩

/-- A store that holds no image and writes none. -/
theorem blank_holds {t : Sst} (image : t.image = .blank) (idle : t.inFlight = none) (P : Image → Prop) : t.Holds P :=
  ⟨fun _ valid => absurd (image.symm.trans valid) nofun, fun _ flying => absurd (idle.symm.trans flying) nofun⟩

theorem reset_settingsLaw : SettingsLaw State.reset :=
  ⟨reset_contents ▸ defaults_inRange, blank_holds rfl rfl _, fun ch t staged => by rw [reset_track] at staged; exact absurd staged nofun,
    fun va => by rw [reset_sav]; rfl⟩

theorem reset_trackingLaw : TrackingLaw State.reset := fun ch => reset_track ch ▸ afterStartUp_law _ _

theorem reset_gatheringLaw : GatheringLaw State.reset := by
  refine ⟨fun ch rev opened => ?_, fun ch sc pending => ?_, fun va => ?_, fun g x buffer => ?_⟩
  · rw [reset_track] at opened; cases opened
  · cases ch <;> cases pending
  · rw [reset_sav]
    exact ⟨nofun, List.length_replicate .., List.mem_of_mem_getLast? rfl⟩
  · change ((Tab.replicate 6 GridInput.afterStartUp).get g).buffer = some x at buffer
    rw [Tab.get_replicate] at buffer
    cases buffer

theorem reset_item (slot : Fin 16) : State.reset.msc.get slot = Item.unused := Tab.get_replicate ..

theorem reset_itemLaw : ItemLaw State.reset := by
  refine ⟨fun slot => ?_, nofun, fun _ => rfl, blank_holds rfl rfl _⟩
  rw [reset_item]
  exact ⟨valid_unused, nofun⟩

/-- What a start-up leaves of the grid analyzer. -/
theorem gridLaw_of_started {s : State} {settings : GridSettings} (gra : s.gra = Gra.afterStartUp settings) : GridLaw s := by
  rw [gridLaw_iff, gra]
  refine ⟨show 0 < 7200000000 from Nat.zero_lt_succ _, Nat.zero_le _, nofun, fun g => ?_⟩
  change GridInput.Lawful ((Tab.replicate 6 GridInput.afterStartUp).get g) g
  rw [Tab.get_replicate]
  exact ⟨⟨by decide, by decide⟩, ⟨by decide, by decide⟩, by decide, nofun, rfl, fun _ => rfl, nofun⟩

/-- Settles O12: law by law. -/
theorem lawsHoldAtReset : Obligations.LawsHoldAtReset :=
  ⟨reset_alertLaw, ⟨by decide, by decide, by decide⟩, ⟨by decide, fun _ => rfl, fun _ => rfl, rfl⟩,
    ⟨fun _ => rfl, rfl, by decide, by decide, by decide⟩, ⟨by decide, nofun, by decide, fun _ => rfl⟩, reset_trackingLaw,
    reset_gatheringLaw, reset_itemLaw, reset_settingsLaw, ⟨by decide, rfl, fun _ => rfl, rfl, nofun, rfl, rfl⟩,
    (levelsFit_of_started rfl defaults_regime_inRange).2, gridLaw_of_started rfl⟩

end Sys2Proof.Machine
end

section
set_option Elab.async false
/-! The law of gathering and the law of the grid analyzer through a command. Sampling, averaging and the analyzer keep both (their
footprints); what is left is tracking, where a channel's revolution is opened at an allowed N and discarded with what was gathered. -/

namespace Sys2Proof.Machine

/-! ### Channels -/

theorem Evolves.gathering {free : List Aspect} {s t : State} (h : Evolves free s t) (kept : Aspect.gathering ∉ free := by decide) :
    Gathering s → Gathering t := h .gathering kept

theorem setTrack_gathering {s : State} (ch : Channel) {t : Track} (held : Gathering s) (cut : t.Cut) :
    Gathering (s.setTrack ch t) := by
  obtain ⟨tracks, rest⟩ := held
  refine ⟨fun o => ?_, rest⟩
  by_cases same : o = ch
  · rw [same, State.track_setTrack_self]; exact cut
  · rw [State.track_setTrack_ne s t same]; exact tracks o

/-- A change of a channel that leaves its settings and its revolution. -/
theorem Track.Cut.same {t u : Track} (cut : t.Cut) (settings : u.settings = t.settings) (staged : u.staged = t.staged)
    (rev : u.rev = t.rev) : u.Cut := by
  unfold Track.Cut
  rw [settings, staged, rev]
  exact cut

/-- A channel that has no revolution any more. -/
theorem Track.Cut.dropped {t u : Track} (cut : t.Cut) (settings : u.settings = t.settings) (staged : u.staged = t.staged)
    (rev : u.rev = none) : u.Cut := by
  obtain ⟨n, next, -⟩ := cut
  exact ⟨settings ▸ n, staged ▸ next, fun _ held => absurd (rev.symm.trans held) nofun⟩

theorem opening_cut {t : Track} (cut : t.Cut) (ch : Channel) (edge : Tick) {samples : Nat} (allowed : samples ∈ cuts) (virtual : Bool) :
    (t.opening ch edge samples virtual).Cut := by
  obtain ⟨n, next, -⟩ := cut
  refine ⟨n, next, fun rev opened => ?_⟩
  obtain rfl := Option.some.inj opened
  exact allowed

theorem applied_rev (t : Track) (new : TrackSettings) : (t.applied new).rev = t.rev := by
  unfold Track.applied
  dsimp only
  split
  · split <;> rfl
  · split
    · split <;> rfl
    · rfl
  · split <;> rfl
  · rfl
  · rfl

theorem applied_cut {t : Track} (cut : t.Cut) {new : TrackSettings} (allowed : new.n ∈ cuts) : (t.applied new).Cut := by
  refine ⟨(applied_settings t new).symm ▸ allowed, fun x held => absurd ((applied_staged t new).symm.trans held) nofun, ?_⟩
  rw [applied_rev]
  exact cut.2.2

theorem openRevolution_gathering {s : State} (ch : Channel) (edge : Tick) {samples : Nat} (allowed : samples ∈ cuts) (virtual : Bool)
    (held : Gathering s) : Gathering (s.openRevolution ch edge samples virtual) :=
  setTrack_gathering ch held (opening_cut (held.track ch) ch edge allowed virtual)

theorem scheduleStrobes_gathering {s : State} (ch : Channel) (taking : Tick) (held : Gathering s) :
    Gathering (s.scheduleStrobes ch taking) := by
  rw [scheduleStrobes_eq]
  refine setTrack_gathering ch held ((held.track ch).same (scheduled_settings ..) (scheduled_staged ..) ?_)
  unfold Track.scheduled
  split <;> rfl

theorem startStrobes_gathering {s : State} (ch : Channel) (taking : Tick) (held : Gathering s) :
    Gathering (s.startStrobes ch taking) :=
  (takeStrobe_evolves _ ch _).gathering (by decide) (scheduleStrobes_gathering ch taking held)

/-! ### Leaving lock and settings -/

theorem discardRevolution_gathering {s : State} (ch : Channel) (held : Gathering s) : Gathering (s.discardRevolution ch) := by
  unfold State.discardRevolution
  have dropped := setTrack_gathering ch held
    ((held.track ch).dropped (u := { s.track ch with rev := none, strobes := none }) rfl rfl rfl)
  have swept : Evolves [] _ _ := (dropScan_evolves (s.setTrack ch { s.track ch with rev := none, strobes := none }) ch).trans
    (dropGathered_evolves _ ch)
  exact (arbitrate_evolves _ _).gathering (by decide) (swept.gathering (by decide) dropped)

theorem leaveLock_gathering {s : State} (ch : Channel) (target : LockState) (held : Gathering s) :
    Gathering (s.leaveLock ch target) := by
  have discarded := discardRevolution_gathering ch held
  exact (lockLost_evolves _ ch).gathering (by decide)
    (setTrack_gathering ch discarded ((discarded.track ch).same rfl rfl rfl))

theorem applyNow_gathering {s : State} (ch : Channel) {new : TrackSettings} (allowed : new.n ∈ cuts) (held : Gathering s) :
    Gathering (s.applyNow ch new) := by
  have set := setTrack_gathering ch held (applied_cut (held.track ch) allowed)
  unfold State.applyNow
  dsimp only
  split
  · exact (clearList_evolves _ ch).gathering (by decide) set
  · exact set

theorem applyStagedNow_gathering {s : State} (ch : Channel) (held : Gathering s) : Gathering (s.applyStagedNow ch) := by
  unfold State.applyStagedNow
  split
  next new staged => exact applyNow_gathering ch ((held.track ch).2.1 new staged) held
  · exact held

theorem applyEffect_gathering {s : State} (ch : Channel) (old new : TrackSettings) (held : Gathering s) :
    Gathering (s.applyEffect ch old new) := by
  unfold State.applyEffect
  dsimp only
  split
  · have left := leaveLock_gathering ch .off held
    exact setTrack_gathering ch left ((left.track ch).same rfl rfl rfl)
  · split
    · have left := leaveLock_gathering ch .acquiring held
      exact setTrack_gathering ch left ((left.track ch).same rfl rfl rfl)
    · exact held

theorem applyStagedAtClose_gathering {s : State} (ch : Channel) (held : Gathering s) : Gathering (s.applyStagedAtClose ch) := by
  unfold State.applyStagedAtClose
  split
  next new staged =>
    obtain ⟨-, next, rev⟩ := held.track ch
    have set : Gathering (s.setTrack ch ((s.track ch).withSettings new)) :=
      setTrack_gathering ch held ⟨next new staged, nofun, rev⟩
    have applied := applyEffect_gathering ch (s.track ch).settings new set
    dsimp only
    split
    · exact (clearList_evolves _ ch).gathering (by decide) applied
    · exact applied
  · exact held

/-! ### The close -/

theorem averaged_length (shift : Nat) (acc values : List Int) : (averaged shift acc values).length = max acc.length values.length := by
  induction acc generalizing values with
  | nil =>
    induction values with
    | nil => rfl
    | cons x xs ih => simp [averaged, ih]
  | cons a as ih =>
    cases values with
    | nil => simp [averaged]
    | cons x xs => simp [averaged, ih, Nat.succ_max_succ]

theorem completeFrom_length (left i : Nat) (last : Int) (filled : List SlotSample) : (completeFrom left i last filled).length = left := by
  induction left generalizing i last filled with
  | zero => rfl
  | succ left ih =>
    cases filled with
    | nil => simp [completeFrom, ih]
    | cons x rest =>
      unfold completeFrom
      split <;> simp [ih]

theorem completed_length (samples : Nat) (rev : RevId) (b : Option RevBuffer) : (completed samples rev b).length = samples := by
  unfold completed
  split
  · split <;> exact completeFrom_length ..
  · exact completeFrom_length ..

theorem updated_gathered {v : Sav} (fits : v.Gathered) {samples : Nat} (allowed : samples ∈ cuts) {values : List Int}
    (size : values.length = samples) : (v.updated samples values).Gathered := by
  obtain ⟨buffer, acc, before⟩ := fits
  have small : values.length ≤ 256 := by
    rw [size]
    exact (by decide : ∀ n ∈ cuts, n ≤ 256) samples allowed
  have length (shift : Nat) : (averaged shift v.acc values).length = 256 := by rw [averaged_length, acc]; omega
  unfold Sav.updated Sav.forSamples
  dsimp only
  split
  · exact ⟨buffer, length _, before⟩
  · exact ⟨buffer, length _, allowed⟩

theorem closeInput_gathering (rev : OpenRev) (allowed : rev.samples ∈ cuts) (revNumber : Nat) {s : State} (va : Fin 6)
    (held : Gathering s) : Gathering (s.closeInput rev revNumber va) := by
  rw [closeInput_eq]
  dsimp only
  set v := s.sav.get va
  set t := (s.setSav va (v.judgedOn rev)).raiseAll (v.closeAlerts va rev) with t_def
  have judged : (v.judgedOn rev).Gathered := ⟨none_rising, (held.sav va).2.1, (held.sav va).2.2⟩
  have counted : Gathering t :=
    (raiseAll_evolves _ _).gathering (by decide) (setSav_gathering s va _ (fun _ => judged) held)
  split
  · refine (startComputation_evolves _ va _).gathering (by decide) (setSav_gathering t va _ (fun _ => ?_) counted)
    exact updated_gathered judged allowed (by simp [Sav.valuesOf, completed_length])
  · exact counted

theorem closeShaft_gathering (rev : OpenRev) (allowed : rev.samples ∈ cuts) (revNumber : Nat) {s : State} (ch : Channel)
    (held : Gathering s) : Gathering (s.closeShaft ch rev revNumber) := by
  have fold := foldl_rel (R := fun t u => Gathering t → Gathering u) (f := State.closeInput rev revNumber) (fun _ => id)
    (fun h k => k ∘ h) (fun t va => closeInput_gathering rev allowed revNumber va) (s.vaList ch) s
  exact fold held

theorem handRevolution_gathering (rev : OpenRev) (allowed : rev.samples ∈ cuts) (revNumber : Nat) (edge : Tick) {s : State}
    (ch : Channel) (held : Gathering s) : Gathering (s.handRevolution ch rev revNumber edge) := by
  cases ch with
  | tl | th =>
    exact (accrue_evolves (onShaft_sparesCalendar _) _ 1).gathering (by decide) (closeShaft_gathering rev allowed revNumber _ held)
  | tg => exact (closeCycle_evolves s rev edge).gathering (by decide) held

theorem closeRevolution_gathering {rev : OpenRev} (allowed : rev.samples ∈ cuts) (edge : Tick) {s : State} (ch : Channel)
    (held : Gathering s) : Gathering (s.closeRevolution ch rev edge) := by
  rw [closeRevolution_eq]
  exact handRevolution_gathering rev allowed _ edge ch (setTrack_gathering ch held ((held.track ch).same rfl rfl rfl))

theorem turnRevolution_gathering {s : State} (ch : Channel) (edge taking : Tick) (virtual : Bool) (held : Gathering s) :
    Gathering (s.turnRevolution ch edge taking virtual) := by
  obtain ⟨n, next, revs⟩ := held.track ch
  unfold State.turnRevolution
  dsimp only
  split
  next rev opened =>
    have allowed : ((s.track ch).staged.getD (s.track ch).settings).n ∈ cuts := by
      cases staged : (s.track ch).staged with
      | none => exact n
      | some new => exact next new staged
    have strobed := (takeStrobe_evolves _ ch 0).gathering (by decide) (openRevolution_gathering ch edge allowed virtual held)
    have closed := (freshBuffers_evolves _ ch).gathering (by decide) (closeRevolution_gathering (revs rev opened) edge ch strobed)
    exact scheduleStrobes_gathering ch taking (applyStagedAtClose_gathering ch closed)
  next =>
    have fresh := (freshBuffers_evolves _ ch).gathering (by decide) (openRevolution_gathering ch edge n virtual held)
    exact scheduleStrobes_gathering ch taking ((takeStrobe_evolves _ ch 0).gathering (by decide) fresh)

/-! ### Edges -/

theorem pulled_cut {t : Track} (cut : t.Cut) (target : LockState) (edge taking : Tick) (tprev ticks : Nat) (unsteady virtual : Bool) :
    (t.pulled target edge taking tprev ticks unsteady virtual).Cut := by
  obtain ⟨n, next, revs⟩ := cut
  refine ⟨n, next, fun rev held => ?_⟩
  obtain ⟨old, opened, rfl⟩ := Option.map_eq_some_iff.1 held
  exact revs old opened

theorem followEdge_gathering {s : State} (ch : Channel) (target : LockState) (edge taking : Tick) (tprev ticks : Nat)
    (unsteady virtual : Bool) (held : Gathering s) :
    Gathering (s.followEdge ch target edge taking tprev ticks unsteady virtual) := by
  rw [followEdge_eq]
  have set := setTrack_gathering ch held (pulled_cut (held.track ch) target edge taking tprev ticks unsteady virtual)
  dsimp only
  split
  · exact turnRevolution_gathering ch edge taking virtual set
  · exact startStrobes_gathering ch taking set

theorem enterLocked_gathering {s : State} (ch : Channel) (edge taking : Tick) (held : Gathering s) :
    Gathering (s.enterLocked ch edge taking) := by
  rw [enterLocked_eq]
  have set := setTrack_gathering ch held ((held.track ch).same (u := (s.track ch).lockedAt taking) rfl rfl rfl)
  have cleared := (clearedForLock_evolves _ ch (s.track ch).settings.z).gathering (by decide) set
  have gained := (lockGained_evolves _ ch).gathering (by decide) cleared
  have opened := openRevolution_gathering ch edge (held.track ch).1 false gained
  exact startStrobes_gathering ch taking ((freshBuffers_evolves _ ch).gathering (by decide) opened)

theorem acquireEdge_gathering {s : State} (ch : Channel) (ref edge taking : Tick) (held : Gathering s) :
    Gathering (s.acquireEdge ch ref edge taking) := by
  rw [acquireEdge_eq]
  have set := setTrack_gathering ch held
    ((held.track ch).same (u := (s.track ch).measured (intervalOf ref edge) edge) rfl rfl rfl)
  dsimp only
  split
  · exact enterLocked_gathering ch edge taking set
  · exact set

theorem losePace_gathering {s : State} (ch : Channel) (edge : Tick) (i : Nat) (held : Gathering s) :
    Gathering (s.losePace ch edge i) := by
  rw [losePace_eq]
  have left := leaveLock_gathering ch .acquiring held
  have set := setTrack_gathering ch left
    ((left.track ch).same (u := ((s.leaveLock ch .acquiring).track ch).paceLost edge i) rfl rfl rfl)
  dsimp only
  split
  · exact applyStagedNow_gathering ch ((raise_evolves _ _).gathering (by decide) set)
  · exact applyStagedNow_gathering ch set

theorem lockedEdge_gathering {s : State} (ch : Channel) (ref edge taking : Tick) (held : Gathering s) :
    Gathering (s.lockedEdge ch ref edge taking) := by
  unfold State.lockedEdge
  dsimp only
  split
  · exact followEdge_gathering ch _ _ _ _ _ _ _ held
  · exact losePace_gathering ch edge _ held

theorem takeEdge_gathering {s : State} (ch : Channel) (edge taking : Tick) (held : Gathering s) :
    Gathering (s.takeEdge ch edge taking) := by
  have cut := held.track ch
  unfold State.takeEdge
  dsimp only
  split
  · exact held
  · exact acquireEdge_gathering ch _ edge taking held
  · exact setTrack_gathering ch held (cut.same rfl rfl rfl)
  · exact lockedEdge_gathering ch _ edge taking held
  · exact setTrack_gathering ch held (cut.same rfl rfl rfl)
  · exact followEdge_gathering ch _ _ _ _ _ _ _ held
  · exact setTrack_gathering ch held (cut.same rfl rfl rfl)

theorem stall_gathering {s : State} (ch : Channel) (held : Gathering s) : Gathering (s.stall ch) := by
  rw [stall_eq]
  have left := leaveLock_gathering ch .stalled held
  have set := setTrack_gathering ch left ((left.track ch).same (u := ((s.leaveLock ch .stalled).track ch).stalledNow) rfl rfl rfl)
  exact applyStagedNow_gathering ch ((raise_evolves _ _).gathering (by decide) set)

theorem lineChanged_rev (t : Track) (high : Bool) (now : Tick) : (t.lineChanged high now).rev = t.rev := by
  unfold Track.lineChanged
  split <;> rfl

theorem lineChanged_cut {t : Track} (cut : t.Cut) (high : Bool) (now : Tick) : (t.lineChanged high now).Cut := by
  unfold Track.lineChanged
  split
  · exact cut
  · exact cut.same rfl rfl rfl

theorem pulse_gathering {s : State} (ch : Channel) (high : Bool) (tick : Tick) (held : Gathering s) :
    Gathering (s.pulse ch high tick) := by
  have advanced : Gathering (s.advance tick) := held
  unfold State.pulse
  split
  · exact setTrack_gathering ch held ((held.track ch).same rfl rfl rfl)
  · exact setTrack_gathering ch advanced ((advanced.track ch).same rfl rfl rfl)
  · exact setTrack_gathering ch advanced (lineChanged_cut (advanced.track ch) _ _)

/-! ### Requests -/

theorem serveSetTrack_gathering (f : TrackFields) {s : State} (held : Gathering s) : Gathering (serveSetTrack f s).1 := by
  unfold serveSetTrack
  split
  · exact held
  next ch _ =>
    split
    next allowed =>
      have n : (trackSettingsOf f).n ∈ cuts := ((allowed_iff _ ch).1 allowed).2.1
      split
      · obtain ⟨inForce, -, revs⟩ := held.track ch
        refine setTrack_gathering ch held ⟨inForce, fun new staged => ?_, revs⟩
        obtain rfl := Option.some.inj staged
        exact n
      · exact applyNow_gathering ch n held
    · exact held

theorem discardIfOpen_gathering {s : State} (ch : Channel) (held : Gathering s) : Gathering (s.discardIfOpen ch) := by
  unfold State.discardIfOpen
  split
  · exact discardRevolution_gathering ch held
  · exact held

theorem stripped_gathering {s : State} (held : Gathering s) : Gathering s.stripped := by
  have discarded := discardIfOpen_gathering .tg (discardIfOpen_gathering .th (discardIfOpen_gathering .tl held))
  have swept := (dropScan_evolves _ .tg).gathering (by decide) ((dropScan_evolves _ .th).gathering (by decide)
    ((dropScan_evolves _ .tl).gathering (by decide) discarded))
  exact swept

/-- A table takes the place of the one in force: no scan is pending, so only its own lists matter. -/
theorem replaceTable_gathering {s : State} {t : ScanTable} (lists : ∀ ch, (t.list ch).Nodup) (held : Gathering s) :
    Gathering (s.replaceTable t) := by
  obtain ⟨tracks, -, scans, inputs, grid⟩ := stripped_gathering held
  have table : Gathering { s.stripped with acq := { s.stripped.acq with table := t } } := ⟨tracks, lists, scans, inputs, grid⟩
  rw [replaceTable_eq]
  exact (rescanned_evolves _ _ _).gathering (by decide)
    ((Evolves.foldl moveInput_evolves allVa _).gathering (by decide) table)

theorem valid_nodup {t : ScanTable} (valid : t.Valid) (ch : Channel) : (t.list ch).Nodup := by
  obtain ⟨-, nodup⟩ := valid
  obtain ⟨shafts, tg, -⟩ := List.nodup_append.1 nodup
  obtain ⟨tl, th, -⟩ := List.nodup_append.1 shafts
  cases ch <;> assumption

theorem serveSetScan_gathering (f : ScanFields) {s : State} (held : Gathering s) : Gathering (serveSetScan f s).1 := by
  unfold serveSetScan
  split
  · exact held
  next t _ =>
    split
    next listed =>
      split
      next disjoint => exact replaceTable_gathering (valid_nodup ((table_valid_iff t).2 ⟨listed, disjoint⟩)) held
      · exact held
    · exact held

/-! ### Start-up -/

theorem loadedFrom_gathering (s : State) {image : Image} (inRange : image.InRange) : Gathering (s.loadedFrom image) := by
  refine ⟨fun ch => ?_, fun ch => valid_nodup inRange.2.2.2.1 ch, fun ch sc pending => ?_, fun va => ?_, fun g => ?_⟩
  · rw [loadedFrom_track]
    exact ⟨(inRange.tracks ch).2.1, nofun, nofun⟩
  · cases ch <;> cases pending
  · change ((Tab.ofFn image.savOf).get va).Gathered
    rw [Tab.get_ofFn]
    refine ⟨none_rising, List.length_replicate .., ?_⟩
    change image.samplesOf va ∈ cuts
    unfold Image.samplesOf
    split
    next ch _ => exact (inRange.tracks ch).2.1
    next => decide
  · change RisingSlots ((Tab.replicate 6 GridInput.afterStartUp).get g).buffer
    rw [Tab.get_replicate]
    exact none_rising

theorem startUp_gathering {s : State} (stored : ∀ image, s.sst.image = .valid image → image.InRange) : Gathering s.startUp := by
  obtain ⟨image, inRange, loaded | loaded⟩ := startUp_loads stored defaults_inRange
  · exact loaded ▸ loadedFrom_gathering s inRange
  · exact loaded ▸ loadedFrom_gathering s inRange

theorem unpowered_gathering (s : State) : Gathering s.unpowered := by
  obtain ⟨-, lists, scans, inputs, grid⟩ := loadedFrom_gathering s defaults_inRange
  refine ⟨fun ch => ?_, lists, scans, inputs, grid⟩
  rw [unpowered_track]
  exact ⟨(defaults_tracksInRange ch).2.1, nofun, nofun⟩

/-! ### A command -/

theorem gathering_iff {s : State} (settings : SettingsLaw s) : Gathering s ↔ GatheringLaw s := by
  obtain ⟨allowed, others, -⟩ := (settingsLaw_iff s).1 settings
  constructor
  · rintro ⟨tracks, -, scans, inputs, grid⟩
    exact ⟨fun ch => (tracks ch).2.2, scans, inputs, grid⟩
  · rintro ⟨revs, scans, inputs, grid⟩
    exact ⟨fun ch => ⟨(allowed ch).1.2.1, fun new held => ((allowed ch).2 new held).2.1, revs ch⟩, valid_nodup others.table, scans, inputs, grid⟩

theorem Happens.gathering {s t : State} {c : Instr} (h : Happens s c t)
    (stored : ∀ image, s.sst.image = .valid image → image.InRange) (held : Gathering s) : Gathering t := by
  refine h.keeps [.gathering] (fun kept => kept .gathering (by simp)) (by decide) ?_ ?_ held
  · intro r free u _ held
    cases r with
    | setTrack f => exact serveSetTrack_gathering f held
    | setScan f => exact serveSetScan_gathering f held
    | _ => simp [freeIn] at free
  · intro free event held
    cases event with
    | powerOn => exact startUp_gathering (unpowered_stored stored)
    | startupEnd tick starting => exact held
    | resetBegin tick running ready => exact startUp_gathering (s := s.advance tick) stored
    | powerLoss tick => exact unpowered_gathering s
    | pulse ch high tick => exact pulse_gathering ch high tick held
    | countedEdge ch x running transition =>
      have advanced : Gathering (s.advance (x.seenAt + x.filter)) := held
      exact takeEdge_gathering ch _ _ (setTrack_gathering ch advanced ((advanced.track ch).same rfl rfl rfl))
    | virtualEdge ch due running locked deadline =>
      exact followEdge_gathering (s := s.advance due) ch _ _ _ _ _ _ _ held
    | holdoverDeadline ch due running holdover deadline => exact stall_gathering (s := s.advance due) ch held
    | strobe ch r due running left at' =>
      have advanced : Gathering (s.advance due) := held
      exact (takeStrobe_evolves _ ch _).gathering (by decide)
        (setTrack_gathering ch advanced ((advanced.track ch).same rfl rfl rfl))
    | _ => simp [ownFree] at free

theorem startUp_gridLaw (s : State) : GridLaw s.startUp := by
  unfold State.startUp
  split <;> exact gridLaw_of_started rfl

theorem Happens.gridLaw {s t : State} {c : Instr} (h : Happens s c t) (law : GridLaw s) : GridLaw t := by
  refine h.keeps [.grid] (fun kept => kept .grid (by simp)) (by decide) ?_ ?_ law
  · intro r free
    cases r <;> simp [freeIn] at free
  · intro free event _
    cases event with
    | powerOn => exact startUp_gridLaw _
    | startupEnd tick starting => exact law
    | resetBegin tick running ready => exact startUp_gridLaw _
    | powerLoss tick => exact gridLaw_of_started rfl
    | _ => simp [ownFree] at free

/-- Settles O8: the channel's own part of each edge, its discards and openings, and the footprints of all the rest. -/
theorem trackingLawKept : Obligations.TrackingLawKept := by
  intro s t h
  refine ⟨fun settings => ⟨fun law => ?_, fun law => ?_⟩, fun law => ?_⟩
  · refine (step_keeps (L := fun u => SettingsLaw u ∧ TrackingLaw u) (fun _ _ => id) ?_ s t ⟨settings, law⟩ h).2
    rintro c u v happens ⟨settings, law⟩
    obtain ⟨tracks, -, stored, -⟩ := (settingsLaw_iff u).1 settings
    exact ⟨happens.settingsLaw settings, (happens.tracks (fun image held => (stored image held).tracks) tracks).2 law⟩
  · refine (step_keeps (L := fun u => SettingsLaw u ∧ GatheringLaw u) (fun _ _ => id) ?_ s t ⟨settings, law⟩ h).2
    rintro c u v happens ⟨settings, law⟩
    have settings' := happens.settingsLaw settings
    exact ⟨settings', (gathering_iff settings').1 (happens.gathering settings.2.1.1 ((gathering_iff settings).2 law))⟩
  · exact step_keeps (fun _ _ law => law) (fun _ _ _ happens => happens.gridLaw) s t law h

end Sys2Proof.Machine
end

section
set_option Elab.async false
/-! Requests that are judged on their fields and replace settings or records whole. Each rule has an equation for what it accepts and
one for what it refuses; a request served at once then leaves what the rule leaves, and its reply. -/

namespace Sys2Proof.Machine

/-! ### Refusals -/

/-- An answer that leaves the state, or one that is no refusal. -/
def Unrefused (s : State) (p : State × Answer) : Prop := p.1 = s ∨ p.2.status = .ok ∨ p.2.status = .staged ∨ p.2.status = .empty

theorem Unrefused.stands (s : State) (a : Answer) : Unrefused s (s, a) := .inl rfl

theorem Unrefused.ok (s u : State) (fields : List Field) : Unrefused s (u, .ok fields) := .inr (.inl rfl)

theorem Unrefused.bareOk (s u : State) : Unrefused s (u, .bare .ok) := .inr (.inl rfl)

theorem serveSetTrack_unrefused (f : TrackFields) (s : State) : Unrefused s (serveSetTrack f s) := by
  unfold serveSetTrack
  split
  · exact .stands s _
  · split
    · split
      · exact .inr (.inr (.inl rfl))
      · exact .bareOk s _
    · exact .stands s _

theorem serveSetScan_unrefused (f : ScanFields) (s : State) : Unrefused s (serveSetScan f s) := by
  unfold serveSetScan
  split
  · exact .stands s _
  · split
    · split
      · exact .bareOk s _
      · exact .stands s _
    · exact .stands s _

theorem serveSetInput_unrefused (f : InputFields) (s : State) : Unrefused s (serveSetInput f s) := by
  unfold serveSetInput
  split
  · split
    · exact .bareOk s _
    · exact .stands s _
  · exact .stands s _

theorem serveClearAverage_unrefused (raw : Nat) (resetLevels : Bool) (s : State) :
    Unrefused s (serveClearAverage raw resetLevels s) := by
  unfold serveClearAverage
  split
  · exact .bareOk s _
  · split
    · exact .bareOk s _
    · exact .stands s _

theorem serveSetProfile_unrefused (f : ProfileFields) (s : State) : Unrefused s (serveSetProfile f s) := by
  unfold serveSetProfile
  split
  · split
    · exact .bareOk s _
    · exact .stands s _
  · exact .stands s _

theorem serveSetIce_unrefused (f : IceFields) (s : State) : Unrefused s (serveSetIce f s) := by
  unfold serveSetIce
  split
  · split
    · exact .bareOk s _
    · exact .stands s _
  · exact .stands s _

theorem serveIceRelease_unrefused (s : State) : Unrefused s (serveIceRelease s) := by
  unfold serveIceRelease
  split
  · split
    · exact .bareOk s _
    · exact .stands s _
  · exact .stands s _

theorem serveSetItem_unrefused (f : ItemFields) (s : State) : Unrefused s (serveSetItem f s) := by
  unfold serveSetItem
  split
  · exact .ok s _ _
  · split
    · split
      · exact .ok s _ _
      · exact .stands s _
    · exact .stands s _
  · exact .stands s _

theorem serveServiceDone_unrefused (raw : Nat) (s : State) : Unrefused s (serveServiceDone raw s) := by
  unfold serveServiceDone
  split
  · exact .stands s _
  · dsimp only
    split
    · exact .stands s _
    · split
      · exact .stands s _
      · split
        · exact .stands s _
        · exact .ok s _ _

theorem serveFetch_unrefused (s : State) : Unrefused s (serveFetch s) := by
  by_cases none : s.alt.records = []
  · exact .inr (.inr (.inr (if_pos none)))
  · exact .inr (.inl (if_neg none))

theorem serveSnapPop_unrefused (number : Nat) (s : State) : Unrefused s (serveSnapPop number s) := by
  unfold serveSnapPop
  split
  · exact .stands s _
  · split
    · exact .stands s _
    · exact .ok s _ _

/-- A rule that judges its fields once, and leaves the state when they fail. -/
theorem Unrefused.judged (s u : State) (valid : Prop) [Decidable valid] (a : Answer) (fields : List Field) :
    Unrefused s (if valid then (u, .ok fields) else (s, a)) := by
  split
  · exact .ok s u fields
  · exact .stands s a

theorem answer_unrefused (s : State) (r : Request) : Unrefused s (s.answer r) := by
  obtain ⟨readTrack, readTsa, readIndicators, readGrid, readRegime, readItems, snapRead⟩ := answer_reads s
  cases r with
  | hello | status | readIce | save | reset | malformed => exact .inl rfl
  | time farm => exact .judged s _ _ _ _
  | setTrack f => exact serveSetTrack_unrefused f s
  | readTrack ch => exact .inl (readTrack ch)
  | setScan f => exact serveSetScan_unrefused f s
  | setInput f => exact serveSetInput_unrefused f s
  | clearAverage raw resetLevels => exact serveClearAverage_unrefused raw resetLevels s
  | readTsa raw start count => exact .inl (readTsa raw start count)
  | readIndicators raw => exact .inl (readIndicators raw)
  | setGrid f => exact .judged s _ _ _ []
  | readGrid raw => exact .inl (readGrid raw)
  | setRegime f => exact .judged s _ _ _ []
  | setProfile f => exact serveSetProfile_unrefused f s
  | readRegime sel => exact .inl (readRegime sel)
  | ambient f => exact .ok s _ _
  | setIce f => exact serveSetIce_unrefused f s
  | setCurve points => exact .judged s _ _ _ []
  | iceRelease => exact serveIceRelease_unrefused s
  | setItem f => exact serveSetItem_unrefused f s
  | serviceDone raw => exact serveServiceDone_unrefused raw s
  | readItems first count => exact .inl (readItems first count)
  | fetch => exact serveFetch_unrefused s
  | snapRead offset count => exact .inl (snapRead offset count)
  | snapPop number => exact serveSnapPop_unrefused number s

/-- Settles O18: every rule leaves the state wherever its answer is not OK, STAGED or EMPTY. -/
theorem refusedRequestsChangeNothing : Obligations.RefusedRequestsChangeNothing := by
  intro r s notOk notStaged notEmpty
  rcases answer_unrefused s r with stands | ok | staged | empty
  · exact stands
  · exact absurd ok notOk
  · exact absurd staged notStaged
  · exact absurd empty notEmpty

/-! ### Requests served at once -/

/-- A request that its rule refuses, served at once. -/
theorem exec_refused {c : Instr} {r : Request} (row : c.request = some r) (notSave : r ≠ .save) (notReset : r ≠ .reset) {s : State}
    (h : s.ServesAtOnce) (st : Status) (judged : ∀ u : State, u.answer r = (u, .bare st)) :
    exec c s = .next ((s.advance (sentAt c)).replied (requestType r + 0x80) st []) :=
  exec_servedAtOnce row notSave notReset h _ (.bare st) (fun _ => judged _) rfl

/-! ### SET_INPUT (R54, R98) -/

theorem vaOf_val (va : Fin 6) : vaOf va.val = some va := by simp [vaOf]

theorem vaOf_high {raw : Nat} (high : 6 ≤ raw) : vaOf raw = none := by simp [vaOf, Nat.not_lt.2 high]

/-- The state after an accepted SET_INPUT. -/
def State.inputSet (s : State) (va : Fin 6) (new : InputSettings) : State :=
  (s.setSav va { s.sav.get va with settings := new }).setInd va
    ((s.ind.get va).reordered (s.sav.get va).settings.orders new.orders)

theorem serveSetInput_accepted (s : State) {f : InputFields} {va : Fin 6} (named : f.input = va.val)
    (inRange : (⟨f.k, f.orders⟩ : InputSettings).InRange) : serveSetInput f s = (s.inputSet va ⟨f.k, f.orders⟩, .bare .ok) := by
  have valid := (inputFieldsValid_iff f).2 inRange
  simp [serveSetInput, named, vaOf_val, valid, State.inputSet]

theorem serveSetInput_refused (s : State) {f : InputFields} (bad : 6 ≤ f.input ∨ ¬(⟨f.k, f.orders⟩ : InputSettings).InRange) :
    serveSetInput f s = (s, .bare .badValue) := by
  unfold serveSetInput
  split
  next va named =>
    have low : f.input < 6 := Nat.lt_of_not_le fun high => by simp [vaOf_high high] at named
    rw [if_neg (by rw [inputFieldsValid_iff]; exact bad.resolve_left (Nat.not_le.2 low))]
  · rfl

/-- Settles O23: an accepted request writes the settings, and its levels index by index. -/
theorem setInputReplacesTheSettings : Obligations.SetInputReplacesTheSettings := by
  intro s tick f h
  refine ⟨fun va named inRange => ?_, fun bad => ?_⟩
  · let t := ((s.advance tick).inputSet va ⟨f.k, f.orders⟩).replied 0x98 .ok []
    have accepted : exec (.setInput f tick) s = .next t :=
      exec_servedAtOnce (r := .setInput f) rfl nofun nofun h ((s.advance tick).inputSet va ⟨f.k, f.orders⟩) (.bare .ok)
        (fun _ => serveSetInput_accepted _ named inRange) rfl
    have levels : (t.ind.get va).levels = ((s.ind.get va).reordered (s.sav.get va).settings.orders f.orders).levels :=
      congrArg Ind.levels (Tab.get_set_self ..)
    refine ⟨t, accepted, ?_, fun i => ?_⟩
    · rw [levels]
      rfl
    · rw [levels]
      exact Tab.get_ofFn ..
  · exact exec_refused (r := .setInput f) rfl nofun nofun h .badValue fun u => serveSetInput_refused u bad

/-! ### SET_GRID, SET_ICE and SET_CURVE (R72, R111, R112) -/

theorem serveSetIce_accepted (s : State) {f : IceFields} {va : Fin 6} (named : f.iceInput = va.val)
    (inRange : (⟨f.tice, f.hice, f.powerMargin, f.imbalanceMargin, f.period, f.tConfirm, f.tThaw, va⟩ : IceSettings).InRange) :
    serveSetIce f s = ({ s with icm := s.icm.configured f va s.now }, .bare .ok) := by
  have valid := (iceFieldsValid_iff f va).2 inRange
  simp only [serveSetIce, named, vaOf_val]
  exact if_pos valid

theorem serveSetIce_refused (s : State) {f : IceFields} {va : Fin 6} (named : f.iceInput = va.val)
    (bad : ¬(⟨f.tice, f.hice, f.powerMargin, f.imbalanceMargin, f.period, f.tConfirm, f.tThaw, va⟩ : IceSettings).InRange) :
    serveSetIce f s = (s, .bare .badValue) := by
  simp only [serveSetIce, named, vaOf_val]
  exact if_neg (mt (iceFieldsValid_iff f va).1 bad)

theorem serveSetIce_noInput (s : State) {f : IceFields} (high : 6 ≤ f.iceInput) : serveSetIce f s = (s, .bare .badValue) := by
  simp only [serveSetIce, vaOf_high high]

/-- Settles O25: each rule is an `if` over the values of its settings. -/
theorem settingsAreReplacedWhole : Obligations.SettingsAreReplacedWhole := by
  intro s tick h
  refine ⟨fun f => ?_, fun f va named => ?_, fun f high => ?_, fun points => ?_⟩
  · split
    next valid =>
      exact exec_servedAtOnce (r := .setGrid f) rfl nofun nofun h
        { s.advance tick with gra := { s.gra with settings := ⟨f.limits, f.voltageThd, f.currentThd, f.kp⟩ } } (.bare .ok)
        (fun _ => if_pos ((gridFieldsValid_iff f).2 valid)) rfl
    next bad =>
      exact exec_refused (r := .setGrid f) rfl nofun nofun h .badValue fun _ => if_neg (mt (gridFieldsValid_iff f).1 bad)
  · dsimp only
    split
    next inRange =>
      exact exec_servedAtOnce (r := .setIce f) rfl nofun nofun h { s.advance tick with icm := s.icm.configured f va (max s.now tick) }
        (.bare .ok) (fun _ => serveSetIce_accepted _ named inRange) rfl
    next bad => exact exec_refused (r := .setIce f) rfl nofun nofun h .badValue fun u => serveSetIce_refused u named bad
  · exact exec_refused (r := .setIce f) rfl nofun nofun h .badValue fun u => serveSetIce_noInput u high
  · split
    next valid =>
      exact exec_servedAtOnce (r := .setCurve points) rfl nofun nofun h
        { s.advance tick with icm := { s.icm with curve := points } } (.bare .ok)
        (fun _ => if_pos ((curveFieldsValid_iff points).2 valid)) rfl
    next bad =>
      exact exec_refused (r := .setCurve points) rfl nofun nofun h .badValue fun _ => if_neg (mt (curveFieldsValid_iff points).1 bad)

/-! ### SET_REGIME and SET_PROFILE (R83 to R85) -/

theorem regimeSet_ind (s : State) (f : RegimeFields) (va : Fin 6) :
    (s.regimeSet f).ind.get va =
      if (s.regimeSet f).rgc.active = s.rgc.active then s.ind.get va
      else { s.ind.get va with levels := Tab.ofFn fun i => ⟨((s.ind.get va).levels.get i).level, 0, 0⟩ } := by
  rw [← ind_zeroed_eq]
  change (if (s.regimeSet f).rgc.active = s.rgc.active then s.ind else s.ind.map Ind.zeroed).get va = _
  split
  · rfl
  · exact Tab.get_map ..

theorem profileOf_val (profile : Fin 8) : profileOf profile.val = some profile := by simp [profileOf]

theorem profileOf_high {raw : Nat} (high : 8 ≤ raw) : profileOf raw = none := by simp [profileOf, Nat.not_lt.2 high]

theorem serveSetProfile_accepted (s : State) {f : ProfileFields} {profile : Fin 8} {va : Fin 6} (named : f.profile = profile.val)
    (named' : f.input = va.val) (inRange : (⟨f.levels, f.persistence⟩ : Row).InRange) :
    serveSetProfile f s = (s.writeRow profile va ⟨f.levels, f.persistence⟩, .bare .ok) := by
  simp only [serveSetProfile, named, named', profileOf_val, vaOf_val]
  exact if_pos ((profileFieldsValid_iff f).2 inRange)

theorem serveSetProfile_refused (s : State) {f : ProfileFields}
    (bad : 8 ≤ f.profile ∨ 6 ≤ f.input ∨ ¬(⟨f.levels, f.persistence⟩ : Row).InRange) :
    serveSetProfile f s = (s, .bare .badValue) := by
  unfold serveSetProfile
  split
  next profile va named named' =>
    refine if_neg fun valid => ?_
    rcases bad with high | high | outside
    · simp [profileOf_high high] at named
    · simp [vaOf_high high] at named'
    · exact outside ((profileFieldsValid_iff f).1 valid)
  · rfl

/-- Settles O26: an accepted SET_REGIME refreshes the active profile, an accepted SET_PROFILE writes one row. -/
theorem regimeAndProfilesAreSet : Obligations.RegimeAndProfilesAreSet := by
  intro s tick h
  refine ⟨fun f => ?_, fun f profile va named named' inRange => ?_, fun f bad => ?_⟩
  · split
    next valid =>
      have accepted : exec (.setRegime f tick) s = .next (((s.advance tick).regimeSet f).replied 0xA8 .ok []) :=
        exec_servedAtOnce (r := .setRegime f) rfl nofun nofun h ((s.advance tick).regimeSet f) (.bare .ok)
          (fun _ => if_pos ((regimeFieldsValid_iff f).2 valid)) rfl
      obtain ⟨-, -, low⟩ := valid
      have entry (r : Fin 8) : (mapEntry (f.map.get r)).val = f.map.get r :=
        Nat.mod_eq_of_lt (Nat.lt_succ_of_le ((Tab.forall_mem_iff f.map fun m => m ≤ 7).1 low r))
      have map (r : Fin 8) : ((f.map.map mapEntry).get r).val = f.map.get r := by rw [Tab.get_map, entry]
      refine ⟨_, accepted, rfl, rfl, map, rfl, rfl, map _, rfl, fun va => ?_⟩
      exact regimeSet_ind (s.advance tick) f va
    next bad =>
      exact exec_refused (r := .setRegime f) rfl nofun nofun h .badValue fun _ => if_neg (mt (regimeFieldsValid_iff f).1 bad)
  · have accepted : exec (.setProfile f tick) s =
        .next (((s.advance tick).writeRow profile va ⟨f.levels, f.persistence⟩).replied 0xA9 .ok []) :=
      exec_servedAtOnce (r := .setProfile f) rfl nofun nofun h ((s.advance tick).writeRow profile va ⟨f.levels, f.persistence⟩)
        (.bare .ok) (fun _ => serveSetProfile_accepted _ named named' inRange) rfl
    refine ⟨_, accepted, rfl, fun p v => writeRow_row (s.advance tick) profile p va v _, fun v => ?_⟩
    have row := writeRow_ind (s.advance tick) profile va v ⟨f.levels, f.persistence⟩
    rw [ind_zeroed_eq] at row
    exact row
  · exact exec_refused (r := .setProfile f) rfl nofun nofun h .badValue fun u => serveSetProfile_refused u bad

/-! ### AMBIENT (R109) -/

theorem clamped_iff {lo hi : Int} (le : lo ≤ hi) (v : Int) : clampInt lo hi v ≠ v ↔ v < lo ∨ hi < v := by
  unfold clampInt
  omega

/-- Settles O27: the record is replaced by the clamped values, and a value is marked where the clamp moved it. -/
theorem ambientReplacesTheRecord : Obligations.AmbientReplacesTheRecord := by
  intro s tick temperature humidity wind h
  rw [← decide_eq_decide.2 (clamped_iff (by decide) temperature), ← decide_eq_decide.2 (clamped_iff (by decide) humidity),
    ← decide_eq_decide.2 (clamped_iff (by decide) wind)]
  exact exec_servedAtOnce (r := .ambient ⟨temperature, humidity, wind⟩) rfl nofun nofun h _ (.ok _) (fun _ => rfl) rfl

/-! ### FETCH (R158, R176) -/

theorem flags_eq (r : AlertRecord) :
    u1 r.flags =
      ⟨1, ([r.detail.isSome, r.detail.any (· < 0), r.threshold.isSome, r.threshold.any (· < 0), r.farm.isSome, r.service,
        r.test].zipIdx.map fun x => if x.1 then 2 ^ x.2 else 0).sum⟩ := by
  have weighted (k : Int) (b : Bool) : (if b then k else 0) = k * bit b := by cases b <;> simp [bit]
  have below (v : Option Int) : bit (decide (v.getD 0 < 0)) = bit (v.any (· < 0)) := by cases v <;> rfl
  simp [u1, AlertRecord.flags, below, weighted, add_assoc]

/-- The type and number of a record's source (R176). -/
def sourceCode : Source → Nat × Nat
  | .none => (0, 0)
  | .input (.va i) => (1, i.val)
  | .input (.gv p) => (1, 6 + p.val)
  | .input (.gi p) => (1, 9 + p.val)
  | .channel ch => (2, match ch with | .tl => 0 | .th => 1 | .tg => 2)
  | .slot i => (3, i.val)

theorem source_fields (x : Source) : x.fields = [⟨1, (sourceCode x).1⟩, ⟨1, (sourceCode x).2⟩] := by
  cases x with
  | none | slot => rfl
  | channel ch => cases ch <;> rfl
  | input i =>
    cases i with
    | va i => rfl
    | gv p | gi p => simp only [Source.fields, sourceCode, inputNumber, u1, Nat.add_comm]

/-- The mark and number of a record's snapshot (R176). -/
def snapshotCode : SnapField → Nat × Nat
  | .absent => (0, 0)
  | .number n => (1, n)
  | .noSnapshot => (2, 0)

theorem snapField_fields (x : SnapField) : x.fields = [⟨1, (snapshotCode x).1⟩, ⟨4, (snapshotCode x).2⟩] := by
  cases x <;> rfl

/-- Settles O31: the reply is the first four records' fields, laid out byte by byte. -/
theorem fetchCarriesTheFirstRecords : Obligations.FetchCarriesTheFirstRecords := by
  refine ⟨fun s tick h => ?_, fun r => ?_, rfl, rfl⟩
  · have carried : (s.alt.records.take fetchCount).length = min 4 s.alt.records.length := List.length_take ..
    have fetched : s.alt.fetched s.phase = ⟨s.alt.records.drop 4, s.alt.nextSeq, false, decide (s.alt.records.drop 4 ≠ [])⟩ := by
      simp [Alt.fetched, Alt.withAttn, h.1, fetchCount]
    rw [← carried]
    refine exec_servedAtOnce (r := .fetch) rfl nofun nofun h _ ⟨if s.alt.records = [] then .empty else .ok, _⟩ (fun p => ?_) rfl
    rw [← fetched]
    rfl
  · rw [AlertRecord.fields, flags_eq]
    have source := source_fields r.source
    have snapshot := snapField_fields r.snapshot
    exact ⟨by rw [source, snapshot]; rfl, by rw [source, snapshot]; rfl⟩

end Sys2Proof.Machine
end

section
set_option Elab.async false
/-! The requests that only read (R21, R56, R73, R86, R106, R131, R142, R172). Each answers with fields of the state as it stands; a
lemma for each says which. -/

namespace Sys2Proof.Machine

/-- A request that is answered from the state and leaves it, served at once. -/
theorem exec_read {c : Instr} {r : Request} (row : c.request = some r) (notSave : r ≠ .save) (notReset : r ≠ .reset) {s : State}
    (h : s.ServesAtOnce) (a : Answer)
    (judged : ∀ p, ((s.advance (sentAt c)).addPlace p).answer r = ((s.advance (sentAt c)).addPlace p, a)) :
    exec c s = .next ((s.advance (sentAt c)).replied (requestType r + 0x80) a.status a.fields) :=
  exec_servedAtOnce row notSave notReset h _ a judged rfl

/-! ### READ_TRACK -/

theorem channelOf_number (ch : Channel) : channelOf (channelNumber ch) = some ch := by cases ch <;> rfl

theorem channelOf_high {raw : Nat} (high : 3 ≤ raw) : channelOf raw = none := by
  match raw with
  | n + 3 => rfl

theorem floorDiv_eq (a b : Nat) : floorDiv a b = if b = 0 then Config.quotientByZero a else a / b := by
  cases b <;> rfl

/-- The rate of R17: 0 while the channel does not follow pulses. -/
theorem rate_eq (t : Track) (ch : Channel) :
    t.rate ch =
      if t.lock.following = false then 0
      else if ch = .tg then (if t.tprev.getD 0 = 0 then Config.quotientByZero 2000000000 else 2000000000 / t.tprev.getD 0)
      else (t.lastTicks.map fun r => if r = 0 then Config.quotientByZero 12000000000 else 12000000000 / r).getD 0 := by
  unfold Track.rate
  cases follows : t.lock.following with
  | false => rfl
  | true =>
    cases ch with
    | tg => exact floorDiv_eq ..
    | tl | th =>
      cases ticks : t.lastTicks with
      | none => rfl
      | some r => exact floorDiv_eq ..

theorem serveReadTrack_channel (s : State) (ch : Channel) :
    serveReadTrack (channelNumber ch) s =
      let t := s.track ch
      (s, .ok ([u1 t.lock.code, u1 t.c, u1 t.p] ++ optionalNat 4 t.tprev
        ++ [u4 (rateOnLine (t.rate ch)), u4 t.closedCount, u2 t.stallCount] ++ t.settings.fields
        ++ optionalGroup t.staged.isSome (t.staged.getD t.settings).fields)) := by
  simp only [serveReadTrack, channelOf_number]

theorem serveReadTrack_high (s : State) {raw : Nat} (high : 3 ≤ raw) : serveReadTrack raw s = (s, .bare .badValue) := by
  simp only [serveReadTrack, channelOf_high high]

/-! ### READ_TSA -/

theorem serveReadTsa_input (s : State) (va : Fin 6) (start : Nat) {count : Nat} (pos : 1 ≤ count) (le : count ≤ 64) :
    serveReadTsa va.val start count s =
      let v := s.sav.get va
      if v.n = 0 then (s, ⟨.empty, v.standing va start count⟩)
      else if v.samples < start + count then (s, .bare .badValue)
      else (s, .ok (v.standing va start count ++ ((v.averages.drop start).take count).map i2)) := by
  have counted : ¬(count = 0 ∨ count > 64) := by omega
  simp only [serveReadTsa, vaOf_val, counted, if_false]

theorem serveReadTsa_refused (s : State) {raw count : Nat} (start : Nat) (bad : 6 ≤ raw ∨ count = 0 ∨ 64 < count) :
    serveReadTsa raw start count s = (s, .bare .badValue) := by
  unfold serveReadTsa
  split
  · rfl
  next va named =>
    exact if_pos (bad.resolve_left fun high => by simp [vaOf_high high] at named)

/-- The values of READ_TSA: the accumulators of the record's slots divided by 256. -/
theorem averages_fields (v : Sav) (start count : Nat) :
    ((v.averages.drop start).take count).map i2 = (((v.acc.take v.samples).drop start).take count).map fun a => i2 (a / 256) := by
  rw [Sav.averages, ← List.map_drop, ← List.map_take, List.map_map]
  rfl

/-! ### READ_INDICATORS -/

theorem serveReadIndicators_empty {s : State} {va : Fin 6} (empty : (s.ind.get va).set = none) :
    serveReadIndicators va.val s =
      (s, ⟨.empty, (s.ind.get va).levels.list.flatMap LevelState.fields ++ [u2 (s.ind.get va).dropped, u1 s.rgc.active.val]⟩) := by
  simp only [serveReadIndicators, vaOf_val, empty]

theorem serveReadIndicators_set {s : State} {va : Fin 6} {t : IndicatorSet} (held : (s.ind.get va).set = some t) :
    serveReadIndicators va.val s =
      (s, .ok ((s.ind.get va).levels.list.flatMap LevelState.fields ++ [u2 (s.ind.get va).dropped, u1 s.rgc.active.val]
        ++ [u4 t.revNumber, u2 t.samples, u2 t.n, mark t.warm] ++ t.orders.list.map u1
        ++ (allIndices.flatMap fun i => (t.values.get i).fields i.val)
        ++ ((s.row s.rgc.active va).levels.list.flatMap fun p => [u2 p.warn, u2 p.alarm])
        ++ [u1 (s.row s.rgc.active va).persistence])) := by
  simp only [serveReadIndicators, vaOf_val, held, IndicatorSet.fields, State.activeRow, Row.fields, List.append_assoc]

/-! ### READ_GRID -/

theorem gridOf_number (g : Fin 6) : gridOf (g.val + 6) = some g := by simp [gridOf, vaOf]

theorem gridOf_outside {raw : Nat} (outside : raw < 6 ∨ 12 ≤ raw) : gridOf raw = none := by
  rcases outside with low | high
  · exact if_pos low
  · simp only [gridOf, Nat.not_lt.2 (show 6 ≤ raw by omega), if_false]
    exact vaOf_high (by omega)

theorem gridIndex_eq_some_iff (i : Input) (g : Fin 6) : gridIndex i = some g ↔ i = gridInputOf g := by
  cases i with
  | va _ => exact ⟨nofun, by revert g; simp [gridInputOf]; intro g; split <;> nofun⟩
  | gv p | gi p => revert p g; decide

/-- A grid input is present when it stands in TG's list (R58). -/
theorem mem_present (s : State) (g : Fin 6) : g ∈ s.present ↔ gridInputOf g ∈ s.scanList .tg := by
  simp only [State.present, List.mem_filterMap, gridIndex_eq_some_iff, exists_eq_right]

theorem serveReadGrid_results {s : State} {g : Fin 6} {b : BlockInfo} {r : GridResult} (last : s.gra.last = some b)
    (result : (s.gra.inputs.get g).result = some r) :
    serveReadGrid (g.val + 6) s =
      (s, .ok (s.gridStanding g ++ [u4 b.number, u4 b.elapsed, u1 b.accepted, u2 b.rejected, mark b.clipped, mark r.noFund]
        ++ optional 2 b.pkw ++ [u2 r.thd] ++ r.hb.map u4)) := by
  simp only [serveReadGrid, gridOf_number, last, result, blockFields, List.append_assoc]

theorem serveReadGrid_empty {s : State} {g : Fin 6} (empty : s.gra.last = none ∨ (s.gra.inputs.get g).result = none) :
    serveReadGrid (g.val + 6) s = (s, ⟨.empty, s.gridStanding g⟩) := by
  simp only [serveReadGrid, gridOf_number]
  split
  next last result => simp [last, result] at empty
  next => rfl

/-! ### READ_REGIME -/

/-- The row of a read that names none: every value is carried as 0. -/
theorem absentRow_fields (r : Row) : optionalGroup false r.fields = u1 0 :: (List.replicate 16 (u2 0) ++ [u1 0]) := by
  obtain ⟨⟨levels, len⟩, persistence⟩ := r
  match levels, len with
  | [_, _, _, _, _, _, _, _], _ => rfl

/-! ### READ_ICE -/

/-- Settles O33: reader by reader, the fields of its answer. -/
theorem readsChangeNothing : Obligations.ReadsChangeNothing := by
  intro s tick h
  refine ⟨?_, fun raw high => ?_, fun ch => ⟨rate_eq _ _, ?_⟩, fun va start count pos le => ?_, fun raw start count bad => ?_, fun va => ?_,
    fun raw high => ?_, fun g => ?_, fun raw outside => ?_, ⟨?_, fun profile va => ?_⟩, fun profile va bad => ?_, ?_,
    ⟨rfl, rfl, rfl, rfl, rfl, rfl, rfl, fun _ => rfl⟩, fun width v => ?_, fun t => ?_, fun it => ?_, fun i v => ?_, fun first count => ?_⟩
  · exact exec_read (r := .status) rfl nofun nofun h (.ok _) (fun _ => rfl)
  · exact exec_refused (r := .readTrack raw) rfl nofun nofun h .badValue fun u => serveReadTrack_high u high
  · exact exec_read (r := .readTrack (channelNumber ch)) rfl nofun nofun h (.ok _) (fun _ => serveReadTrack_channel _ ch)
  · dsimp only
    rw [← averages_fields]
    split
    next empty =>
      exact exec_read (r := .readTsa va.val start count) rfl nofun nofun h ⟨.empty, _⟩ fun _ =>
        (serveReadTsa_input _ va start pos le).trans (if_pos empty)
    next held =>
      split
      next beyond =>
        exact exec_read (r := .readTsa va.val start count) rfl nofun nofun h (.bare .badValue) fun _ =>
          (serveReadTsa_input _ va start pos le).trans ((if_neg held).trans (if_pos beyond))
      next within =>
        exact exec_read (r := .readTsa va.val start count) rfl nofun nofun h (.ok _) fun _ =>
          (serveReadTsa_input _ va start pos le).trans ((if_neg held).trans (if_neg within))
  · exact exec_refused (r := .readTsa raw start count) rfl nofun nofun h .badValue fun u => serveReadTsa_refused u start bad
  · dsimp only
    split
    next empty => exact exec_read (r := .readIndicators va.val) rfl nofun nofun h ⟨.empty, _⟩ fun _ => serveReadIndicators_empty empty
    next t held =>
      exact exec_read (r := .readIndicators va.val) rfl nofun nofun h (.ok _) fun _ => serveReadIndicators_set held
  · exact exec_refused (r := .readIndicators raw) rfl nofun nofun h .badValue fun u => by
      simp only [State.answer, serveReadIndicators, vaOf_high high]
  · dsimp only
    rw [← decide_eq_decide.2 (mem_present s g)]
    split
    next b r last result =>
      exact exec_read (r := .readGrid (g.val + 6)) rfl nofun nofun h (.ok _) fun _ => serveReadGrid_results last result
    next missing =>
      refine exec_read (r := .readGrid (g.val + 6)) rfl nofun nofun h ⟨.empty, _⟩ fun _ => serveReadGrid_empty ?_
      exact or_iff_not_imp_left.2 fun closed => Option.eq_none_iff_forall_ne_some.2 fun r result => by
        obtain ⟨b, last⟩ := Option.ne_none_iff_exists'.1 closed
        exact missing b r last result
  · exact exec_refused (r := .readGrid raw) rfl nofun nofun h .badValue fun u => by
      simp only [State.answer, serveReadGrid, gridOf_outside outside]
  · rw [← absentRow_fields (s.row 0 0)]
    exact exec_read (r := .readRegime none) rfl nofun nofun h (.ok _) (fun _ => rfl)
  · refine exec_read (r := .readRegime (some ⟨profile.val, va.val⟩)) rfl nofun nofun h (.ok _) fun _ => ?_
    simp only [State.answer, serveReadRegime, profileOf_val, vaOf_val]
    rfl
  · refine exec_refused (r := .readRegime (some ⟨profile, va⟩)) rfl nofun nofun h .badValue fun u => ?_
    rcases bad with high | high
    · simp only [State.answer, serveReadRegime, profileOf_high high]
    · simp only [State.answer, serveReadRegime, vaOf_high high]
      cases profileOf profile <;> rfl
  · refine exec_read (r := .readIce) rfl nofun nofun h (.ok _) fun p => ?_
    have icm : ((s.advance tick).addPlace p).icm = s.icm := rfl
    change serveReadIce ((s.advance tick).addPlace p) = _
    simp only [serveReadIce, icm, curveValid, ge_iff_le, decide_eq_true_eq]
    congr 2
    cases s.icm.ambient <;> cases s.icm.tThaw <;> rfl
  · cases v <;> rfl
  · obtain ⟨enable, edge, z, n, tmin, tmax, filter⟩ := t
    cases enable <;> cases edge <;> rfl
  · obtain ⟨tag, basis, source, interval, lead, accrued, state, start, done, count⟩ := it
    cases basis <;> rcases source with _ | _ | (_ | _ | _) <;> rfl
  · cases v with
    | value x =>
      refine congrArg (_ ++ [·]) ?_
      by_cases third : i = 2
      · subst third; rfl
      · rw [if_neg third, if_neg fun same : i.val = 2 => third (Fin.ext same)]; rfl
    | unused | absent => rfl
  · split
    next ok =>
      exact exec_read (r := .readItems first count) rfl nofun nofun h (.ok _) fun _ => if_neg (by omega)
    next out =>
      exact exec_read (r := .readItems first count) rfl nofun nofun h (.bare .badValue) fun _ => if_pos (by omega)

end Sys2Proof.Machine
end

section
set_option Elab.async false
/-! Items that count on (R134 to R137). An accrual and a recount of CALENDAR items are the same walk over the slots: an item for which
there is a new count takes it, with its state recomputed and an upward move reported. What the walk leaves is said once; TIME (R174)
is its first use. -/

namespace Sys2Proof.Machine

/-! ### Alerts raised in order -/

/-- What is stamped on an alert, and the list it joins, are the same in both states. -/
def StampsAlike (s t : State) : Prop :=
  s.phase = t.phase ∧ s.rgc.regime = t.rgc.regime ∧ s.clk = t.clk ∧ s.skd.mode = t.skd.mode ∧ s.alt = t.alt

theorem StampsAlike.raise {s t : State} (h : StampsAlike s t) (a : Alert) : StampsAlike (s.raise a) (t.raise a) := by
  obtain ⟨phase, regime, clk, mode, alt⟩ := h
  refine ⟨phase, regime, clk, mode, ?_⟩
  have stamped : a.stamped s = a.stamped t := by simp only [Alert.stamped, regime, clk, mode]
  rw [State.raise_alt, State.raise_alt, alt, phase, stamped]

theorem StampsAlike.raiseAll {s t : State} (h : StampsAlike s t) (as : List Alert) :
    StampsAlike (s.raiseAll as) (t.raiseAll as) := by
  induction as generalizing s t with
  | nil => exact h
  | cons a as ih => exact ih (h.raise a)

theorem StampsAlike.alt {s t : State} (h : StampsAlike s t) : s.alt = t.alt := h.2.2.2.2

theorem raiseAll_eq (s : State) (as : List Alert) : s.raiseAll as = { s with alt := (s.raiseAll as).alt } := raiseAll_onlyAlt s as

/-- The state with these items. -/
def State.withItems (s : State) (items : Tab 16 Item) : State := { s with msc := items }

theorem raiseAll_withItems (s : State) (items : Tab 16 Item) (as : List Alert) :
    (s.withItems items).raiseAll as = (s.raiseAll as).withItems items :=
  List.foldl_hom (State.withItems · items) fun _ _ => rfl

theorem raiseAll_append (s : State) (before after : List Alert) : s.raiseAll (before ++ after) = (s.raiseAll before).raiseAll after :=
  List.foldl_append

/-! ### One item -/

theorem factor_eq_unit (b : Basis) : b.factor = b.unit := by cases b <;> rfl

theorem computedState_eq_stateAt (it : Item) (accrued : Nat) :
    ({ it with accrued := accrued } : Item).computedState = it.stateAt accrued := by
  unfold Item.stateAt
  by_cases unused : it.basis = .none
  · simp [Item.computedState, unused]
  · rw [computedState_inUse (it := { it with accrued := accrued }) unused]
    simp only [unused, if_false, itemStateOf, factor_eq_unit, Nat.add_mul, Nat.sub_mul, ge_iff_le]

/-- The item that has taken a new count, if there is one. -/
def Item.counted (count : Item → Option Nat) (it : Item) : Item :=
  match count it with
  | some accrued => { it with accrued := accrued, state := it.stateAt accrued }
  | none => it

theorem moveAlert_eq_report (slot : Fin 16) (it : Item) (accrued : Nat) :
    Item.moveAlert slot it.state { it with accrued := accrued, state := it.stateAt accrued } = it.report slot accrued := by
  unfold Item.moveAlert Item.report
  simp only [Item.displayed, factor_eq_unit]
  split
  · cases it.stateAt accrued <;> rfl
  · rfl

/-- A slot takes a new count if there is one, and an upward move is reported. -/
def State.countAt (count : Item → Option Nat) (s : State) (slot : Fin 16) : State :=
  match count (s.msc.get slot) with
  | some accrued => s.recompute slot { s.msc.get slot with accrued := accrued }
  | none => s

/-- What an item reports when it takes a new count. -/
def State.countReport (s : State) (count : Item → Option Nat) (slot : Fin 16) : Option Alert :=
  (count (s.msc.get slot)).bind ((s.msc.get slot).report slot)

theorem countAt_eq (count : Item → Option Nat) (s : State) (slot : Fin 16) :
    s.countAt count slot =
      (s.raiseAll (s.countReport count slot).toList).withItems (s.msc.set slot ((s.msc.get slot).counted count)) := by
  unfold State.countAt State.countReport Item.counted
  cases count (s.msc.get slot) with
  | none => simp [State.raiseAll, State.withItems]
  | some accrued =>
    simp only [State.recompute, computedState_eq_stateAt, moveAlert_eq_report, Option.bind_some]
    exact raiseAll_withItems ..

/-! ### The walk over the slots -/

theorem countAt_foldl (count : Item → Option Nat) (l : List (Fin 16)) (nodup : l.Nodup) (s : State) :
    l.foldl (State.countAt count) s =
      (s.raiseAll (l.filterMap (s.countReport count))).withItems
        (Tab.ofFn fun o => if o ∈ l then (s.msc.get o).counted count else s.msc.get o) := by
  induction l generalizing s with
  | nil =>
    have same : (Tab.ofFn fun o => s.msc.get o) = s.msc := Tab.ext_get fun o => Tab.get_ofFn ..
    simp [State.raiseAll, State.withItems, same]
  | cons a l ih =>
    obtain ⟨new, nodup⟩ := List.nodup_cons.1 nodup
    have items (o : Fin 16) :
        (s.countAt count a).msc.get o = if a = o then (s.msc.get o).counted count else s.msc.get o := by
      rw [countAt_eq]
      refine (Tab.get_set ..).trans ?_
      split
      next same => rw [same]
      next => rfl
    have reports : l.filterMap ((s.countAt count a).countReport count) = l.filterMap (s.countReport count) :=
      List.filterMap_congr fun o within => by
        simp only [State.countReport, items, show a ≠ o from fun same => new (same ▸ within), if_false]
    have raised : s.raiseAll ((a :: l).filterMap (s.countReport count)) =
        (s.raiseAll (s.countReport count a).toList).raiseAll (l.filterMap (s.countReport count)) := by
      rw [← raiseAll_append]
      cases report : s.countReport count a <;> simp [report]
    have written : (Tab.ofFn fun o => if o ∈ l then ((s.countAt count a).msc.get o).counted count else (s.countAt count a).msc.get o)
        = Tab.ofFn fun o => if o ∈ a :: l then (s.msc.get o).counted count else s.msc.get o := Tab.ext_get fun o => by
      simp only [Tab.get_ofFn, items, List.mem_cons]
      by_cases same : a = o
      · subst same; simp [new]
      · simp [same, Ne.symm same]
    rw [List.foldl_cons, ih nodup, reports, written, countAt_eq, raiseAll_withItems, raised]
    rfl

/-- The walk over all slots is what the statements call the items counted. -/
theorem countAt_allSlots (count : Item → Option Nat) (s : State) :
    allSlots.foldl (State.countAt count) s = s.itemsCounted count := by
  rw [countAt_foldl count allSlots (by decide), raiseAll_eq]
  have items : (Tab.ofFn fun o => if o ∈ allSlots then (s.msc.get o).counted count else s.msc.get o)
      = s.msc.map (Item.counted count) := Tab.ext_get fun o => by simp [mem_allSlots]
  rw [items]
  rfl

/-! ### Accruals and recounts -/

theorem accrueAt_eq_countAt {concerns : Item → Bool} {P : Item → Prop} [DecidablePred P] (same : ∀ it, concerns it = true ↔ P it)
    (amount : Nat) : State.accrueAt concerns amount = State.countAt (addedTo P amount) := by
  funext s slot
  simp only [State.accrueAt, State.countAt, addedTo, satAdd, max32]
  by_cases concerned : P (s.msc.get slot) <;> simp [same, concerned]

/-- An accrual event, item by item (R136). -/
theorem accrue_eq_itemsCounted (s : State) {concerns : Item → Bool} {P : Item → Prop} [DecidablePred P]
    (same : ∀ it, concerns it = true ↔ P it) {amount : Nat} (positive : amount ≠ 0) :
    s.accrue concerns amount = s.itemsCounted (addedTo P amount) := by
  rw [State.accrue, if_neg positive, accrueAt_eq_countAt same, countAt_allSlots]

theorem onBasis_iff (b : Basis) (it : Item) : onBasis b it = true ↔ it.basis = b := decide_eq_true_iff

theorem recountCalendar_eq_countAt (farm : Nat) :
    State.recountCalendar farm = State.countAt (calendarCount (some farm)) := by
  funext s slot
  unfold State.recountCalendar State.countAt calendarCount
  dsimp only
  cases (s.msc.get slot).basis <;> cases (s.msc.get slot).calendarStart <;> rfl

/-- A recount of CALENDAR items, item by item (R137). -/
theorem recountCalendars_eq_itemsCounted (s : State) : s.recountCalendars = s.itemsCounted (calendarCount s.clk.farm) := by
  unfold State.recountCalendars
  split
  next unsynced =>
    have uncounted (it : Item) : calendarCount s.clk.farm it = none := by
      rw [unsynced]; unfold calendarCount; split <;> simp_all
    have report : (fun slot => (calendarCount s.clk.farm (s.msc.get slot)).bind ((s.msc.get slot).report slot)) = fun _ => none := by
      funext slot; rw [uncounted]; rfl
    have items : s.msc.map (Item.counted (calendarCount s.clk.farm)) = s.msc :=
      Tab.ext_get fun o => by simp [Item.counted, uncounted]
    change s = { s with
      msc := s.msc.map (Item.counted _), alt := (s.raiseAll (allSlots.filterMap fun slot => _)).alt }
    rw [items, report]
    simp [State.raiseAll]
  next farm synced => rw [synced, recountCalendar_eq_countAt, countAt_allSlots]

/-! ### TIME -/

theorem itemsCounted_addPlace (s : State) (count : Item → Option Nat) (p : Place) :
    (s.addPlace p).itemsCounted count = (s.itemsCounted count).addPlace p := by
  have raised (as : List Alert) : ((s.addPlace p).raiseAll as).alt = (s.raiseAll as).alt :=
    (StampsAlike.raiseAll (s := s.addPlace p) (t := s) ⟨rfl, rfl, rfl, rfl, rfl⟩ as).alt
  unfold State.itemsCounted
  rw [raised]
  rfl

theorem serveTime_accepted (s : State) {farm : Nat} (carried : farm ≤ 4294967295) :
    serveTime farm s =
      ((s.farmGiven farm).itemsCounted (calendarCount (some farm)), .ok (optionalNat 4 s.clk.farm ++ [u4 farm])) := by
  refine (if_pos carried).trans ?_
  rw [setFarm_eq, recountCalendars_eq_itemsCounted]
  rfl

/-- The state before the recount differs from the one the statement gives in the clock alone. -/
theorem itemsCounted_advance (s : State) (tick : Tick) (count : Item → Option Nat) :
    (s.advance tick).itemsCounted count = (s.itemsCounted count).advance tick := by
  have raised (as : List Alert) : ((s.advance tick).raiseAll as).alt = (s.raiseAll as).alt :=
    (StampsAlike.raiseAll (s := s.advance tick) (t := s) ⟨rfl, rfl, rfl, rfl, rfl⟩ as).alt
  unfold State.itemsCounted
  rw [raised]
  rfl

theorem itemsCounted_item (s : State) (count : Item → Option Nat) (slot : Fin 16) :
    (s.itemsCounted count).msc.get slot = (s.msc.get slot).counted count := (Tab.get_map ..).trans rfl

/-- A CALENDAR item given a start counts from it; another item stands (R137). -/
theorem withStart_counted (it : Item) (farm : Nat) :
    (it.withStart farm).counted (calendarCount (some farm)) =
      if it.basis = .calendar then
        { it with
          calendarStart := some (it.calendarStart.getD farm), accrued := farm - it.calendarStart.getD farm
          state := itemStateOf (it.interval * 86400) (it.lead * 86400) (farm - it.calendarStart.getD farm) }
      else it := by
  obtain ⟨tag, basis, source, interval, lead, accrued, state, start, done, count⟩ := it
  by_cases calendar : basis = .calendar
  · subst calendar
    cases start <;> simp [Item.withStart, Item.counted, calendarCount, ← computedState_eq_stateAt, Item.computedState, Basis.factor]
  · simp [Item.withStart, calendar, Item.counted, calendarCount]

/-- Settles O16: what TIME gives is the clock and the starts, and then the recount; the link alone carries the reply. -/
theorem timeSetsFarmTime : Obligations.TimeSetsFarmTime := by
  intro s tick farm h carried
  have served : exec (.time farm tick) s = .next ((((s.farmGiven farm).itemsCounted (calendarCount (some farm))).advance tick).replied
      0x83 .ok (optionalNat 4 s.clk.farm ++ [u4 farm])) := by
    refine exec_servedAtOnce (r := .time farm) rfl nofun nofun h _ (.ok _) (fun p => ?_) rfl
    rw [← itemsCounted_advance, ← itemsCounted_addPlace]
    exact serveTime_accepted _ carried
  refine ⟨_, served, rfl, fun slot => ?_⟩
  refine (itemsCounted_item (s.farmGiven farm) _ slot).trans ?_
  rw [← withStart_counted]
  exact congrArg _ (Tab.get_map ..)

end Sys2Proof.Machine
end

section
set_option Elab.async false
/-! Requests that are not answered at once, or not by their owner's rule alone: SAVE and RESET (R175, R179), and any request that
completes while another is served, is dropped, or finds the part not running (R169, R175, R180). -/

namespace Sys2Proof.Machine

/-- A request that is served while nothing else is: it takes its place and is served, and a ready head is sent. -/
theorem exec_served {c : Instr} {r : Request} (row : c.request = some r) {s : State} (h : s.ServesAtOnce) :
    exec c s = .next ((((s.advance (sentAt c)).addPlace ⟨none, false⟩).serve r).kick) := by
  obtain ⟨running, -, idle, -, -⟩ := id h
  rw [exec_request row]
  simp only [State.whileRunning, running, State.submit, State.advance_lnk, drops_of_servesAtOnce h, State.dispatch, idle,
    Bool.false_eq_true, if_false]

/-- RESET makes its own place, the first pending one, ready (R175). -/
theorem serveReset_addPlace {s : State} (ready : ∀ p ∈ s.lnk.order, p.reply.isSome = true) :
    (s.addPlace ⟨none, false⟩).serveReset =
      { s with lnk := { s.lnk with order := s.lnk.order ++ [(⟨some ⟨0xC9, .ok, []⟩, true⟩ : Place)], reset := .served } } := by
  have filled := fillFirst_append ⟨0xC9, .ok, []⟩ true s.lnk.order ⟨none, false⟩ [] ready rfl
  exact congrArg (fun order => ({ s with lnk := { s.lnk with order := order, reset := .served } } : State)) filled

/-- What a write copies, field by field (R177). -/
theorem contents_eq (s : State) :
    s.contents =
      { track := ⟨s.trk.tl.settings, s.trk.th.settings, s.trk.tg.settings⟩
        scan := s.acq.table
        inputs := Tab.ofFn fun va => (s.sav.get va).settings
        grid := s.gra.settings
        regime := s.rgc.settings
        ice := s.icm.settings
        curve := s.icm.curve
        items := Tab.ofFn fun slot => (s.msc.get slot).stored
        baseline := s.icm.baseline
        learnedCount := s.icm.learnedCount
        icing := s.icm.state.stored } := by
  have inputs : s.sav.map Sav.settings = Tab.ofFn fun va => (s.sav.get va).settings := Tab.ext_get fun va => by simp
  have items : s.msc.map Item.stored = Tab.ofFn fun slot => (s.msc.get slot).stored := Tab.ext_get fun slot => by simp
  simp only [State.contents, inputs, items]
  rfl

/-- Settles O34: SAVE asks for a write, which starts at once or is left pending, and RESET makes its own place ready. -/
theorem saveAndResetAreServed : Obligations.SaveAndResetAreServed := by
  intro s tick h
  refine ⟨fun idle => ?_, fun running => ?_, ?_, ?_⟩
  · have requested := requested_idle s.sst s.contents (max s.now tick) idle
    refine (exec_served (r := .save) rfl h).trans ?_
    rw [← requested]
    have waits : (if s.sst.inFlight.isSome then SaveWaits.pending else SaveWaits.inFlight) = .inFlight := by rw [idle]; rfl
    rw [← waits]
    rfl
  · have requested := requested_running s.sst s.contents (max s.now tick) running
    refine (exec_served (r := .save) rfl h).trans ?_
    rw [← requested]
    have waits : (if s.sst.inFlight.isSome then SaveWaits.pending else SaveWaits.inFlight) = .pending := if_pos running
    rw [← waits]
    rfl
  · refine (exec_served (r := .reset) rfl h).trans ?_
    exact congrArg (fun t : State => Host.Outcome.next t.kick) (serveReset_addPlace (s := s.advance tick) h.2.2.2.2)
  · rw [contents_eq]
    cases s.icm.state <;> rfl

theorem dispatch_waits {s : State} (r : Request) {w : SaveWaits} (serving : s.lnk.serving = some w) (nothing : s.lnk.waiting = none) :
    s.dispatch r =
      { s with lnk := { s.lnk with order := s.lnk.order ++ [(⟨none, false⟩ : Place)], waiting := some r } } := by
  unfold State.dispatch
  split
  next idle => simp [serving] at idle
  next => rfl
  next first held => simp [nothing] at held

theorem dispatch_busy {s : State} (r : Request) {w : SaveWaits} {first : Request} (serving : s.lnk.serving = some w)
    (held : s.lnk.waiting = some first) :
    s.dispatch r = s.addPlace ⟨some (replyTo (requestType r) (.bare .busy)), false⟩ := by
  unfold State.dispatch
  split
  next idle => simp [serving] at idle
  next nothing => simp [held] at nothing
  next => rfl

/-- Settles O17: the place a request takes is judged by the phase, what the link still takes, and what is served and waits. -/
theorem laterRequestsWaitOrAreBusy : Obligations.LaterRequestsWaitOrAreBusy := by
  intro c r w s row
  rw [exec_request row]
  refine ⟨fun running => ⟨fun noReset room serving => ?_, fun full => ?_⟩, fun starting => ?_, fun off => ?_⟩
  · have takes : (s.advance (sentAt c)).lnk.drops = false := by
      simp only [Lnk.drops, State.advance_lnk, noReset, orderCapacity]
      simpa using room
    simp only [State.whileRunning, running, State.submit, takes, Bool.false_eq_true, if_false]
    refine ⟨fun nothing => ?_, fun waiting => ?_⟩
    · rw [dispatch_waits (s := s.advance (sentAt c)) r serving nothing]
      rfl
    · obtain ⟨first, held⟩ := Option.isSome_iff_exists.1 waiting
      rw [dispatch_busy (s := s.advance (sentAt c)) r serving held]
      rfl
  · have drops : (s.advance (sentAt c)).lnk.drops = true := decide_eq_true full
    simp only [State.whileRunning, running, State.submit, drops, if_true]
  · simp only [State.whileRunning, starting]
  · simp only [State.whileRunning, off]

end Sys2Proof.Machine
end

section
set_option Elab.async false
/-! SET_TRACK (R2, R19). Settings applied at once are one update of the channel and, where they cut a revolution in another way, the
clear of the records of its list; both are said here in the words of the statements. -/

namespace Sys2Proof.Machine

/-! ### A channel that takes settings -/

theorem cutChanged_iff (old new : TrackSettings) : cutChanged old new = true ↔ old.recuts new := decide_eq_true_iff

/-- A channel that follows no pulses takes settings by R19. -/
theorem applied_eq_settled {t : Track} (away : t.lock.following = false) (new : TrackSettings) : t.applied new = t.settled new := by
  obtain ⟨line, lock, settings, staged, c, tprev, ref, p, rev, deadline, transition, strobes, closed, stalls, ticks, serial⟩ := t
  by_cases enable : new.enable = true <;> by_cases edge : settings.edge = new.edge
  all_goals cases lock with
    | locked | holdover => exact absurd away Bool.noConfusion
    | off | stalled =>
      simp [Track.applied, Track.settled, Track.withSettings, Track.turnedOff, enable, edge]
    | acquiring =>
      by_cases recut : settings.recuts new
      · simp [Track.applied, Track.settled, Track.withSettings, Track.turnedOff, Track.restarted, enable, edge, cutChanged_iff, recut]
      · simp [Track.applied, Track.settled, Track.withSettings, Track.turnedOff, Track.restarted, enable, edge, cutChanged_iff, recut]

/-! ### Cleared records -/

theorem mem_vaList (s : State) (ch : Channel) (va : Fin 6) : va ∈ s.vaList ch ↔ .va va ∈ s.scanList ch := by
  have named (i : Input) : vaIndex i = some va ↔ i = .va va := by cases i <;> simp [vaIndex]
  simp [State.vaList, named]

/-- A clear takes the N of the record's owner from the channels alone. -/
theorem emptied_congr {s t : State} (trk : t.trk = s.trk) (v : Sav) : v.emptied t = v.emptied s := by
  unfold Sav.emptied State.track
  rw [trk]

theorem clearList_sav_get (s : State) (ch : Channel) (va : Fin 6) :
    (s.clearList ch).sav.get va = if va ∈ s.vaList ch then (s.sav.get va).emptied s else s.sav.get va := by
  rw [State.clearList, clearTsa_foldl_get]
  rfl

/-! ### Settings applied at once -/

theorem applyNow_cut {s : State} {ch : Channel} {new : TrackSettings} (recut : (s.track ch).settings.recuts new) :
    s.applyNow ch new = (s.setTrack ch ((s.track ch).applied new)).clearList ch :=
  if_pos ((cutChanged_iff ..).2 recut)

theorem applyNow_uncut {s : State} {ch : Channel} {new : TrackSettings} (uncut : ¬(s.track ch).settings.recuts new) :
    s.applyNow ch new = s.setTrack ch ((s.track ch).applied new) :=
  if_neg fun cut => uncut ((cutChanged_iff ..).1 cut)

theorem applyNow_onlyTrkSav (s : State) (ch : Channel) (new : TrackSettings) :
    s.applyNow ch new = { s with trk := s.trk.set ch ((s.track ch).applied new), sav := (s.applyNow ch new).sav } := by
  by_cases recut : (s.track ch).settings.recuts new
  · rw [applyNow_cut recut]
    exact clearList_onlySav ..
  · rw [applyNow_uncut recut]
    rfl

theorem applyNow_sav_get (s : State) (ch : Channel) (new : TrackSettings) (va : Fin 6) :
    (s.applyNow ch new).sav.get va =
      if va ∈ s.vaList ch ∧ (s.track ch).settings.recuts new then (s.sav.get va).emptied (s.applyNow ch new) else s.sav.get va := by
  by_cases recut : (s.track ch).settings.recuts new
  · rw [emptied_congr (s := s.setTrack ch ((s.track ch).applied new)) (applyNow_trk ..), applyNow_cut recut]
    exact (clearList_sav_get ..).trans (if_congr (and_iff_left recut).symm rfl rfl)
  · rw [applyNow_uncut recut, if_neg fun both => recut both.2]
    rfl

/-! ### SET_TRACK -/

/-- The number that names a channel. -/
theorem channelOf_eq {raw : Nat} {ch : Channel} (named : channelOf raw = some ch) :
    raw = channelNumber ch := by
  match raw with
  | 0 | 1 | 2 => cases named; rfl
  | n + 3 => simp [channelOf] at named

theorem serveSetTrack_named (s : State) (ch : Channel) (f : TrackFields) (named : f.channel = channelNumber ch) :
    serveSetTrack f s =
      if (trackSettingsOf f).allowed ch then
        if (s.track ch).lock.following then
          (s.setTrack ch { s.track ch with staged := some (trackSettingsOf f) }, .bare .staged)
        else (s.applyNow ch (trackSettingsOf f), .bare .ok)
      else (s, .bare .badValue) := by
  simp only [serveSetTrack, named, channelOf_number]

theorem applyNow_addPlace (s : State) (ch : Channel) (new : TrackSettings) (p : Place) :
    (s.addPlace p).applyNow ch new = (s.applyNow ch new).addPlace p := by
  have cleared (t : State) : (t.addPlace p).clearList ch = (t.clearList ch).addPlace p :=
    List.foldl_hom (f := (State.addPlace · p)) (g₁ := State.clearTsa) (g₂ := State.clearTsa) fun _ _ => rfl
  by_cases recut : (s.track ch).settings.recuts new
  · rw [applyNow_cut recut, applyNow_cut (s := s.addPlace p) recut]
    exact cleared (s.setTrack ch ((s.track ch).applied new))
  · rw [applyNow_uncut recut, applyNow_uncut (s := s.addPlace p) recut]
    rfl

/-- Settles O21: the settings a channel in range carries are staged or applied by its lock state; the clears of an application are
those of its list. -/
theorem setTrackStagesOrApplies : Obligations.SetTrackStagesOrApplies := by
  intro s tick f h
  refine ⟨fun ch named inRange => ⟨fun follows => ?_, fun away => ?_⟩, fun refused => ?_⟩
  · have number : f.channel = channelNumber ch := named.trans (by cases ch <;> rfl)
    exact exec_servedAtOnce (r := .setTrack f) rfl nofun nofun h _ (.bare .staged) (fun p =>
      (serveSetTrack_named _ ch f number).trans ((if_pos ((allowed_iff ..).2 inRange)).trans (if_pos follows))) rfl
  · have number : f.channel = channelNumber ch := named.trans (by cases ch <;> rfl)
    let u := (s.advance tick).applyNow ch (trackSettingsOf f)
    have frame : u = { s with
        now := max s.now tick, trk := s.trk.set ch ((s.track ch).applied (trackSettingsOf f)), sav := u.sav } :=
      applyNow_onlyTrkSav (s.advance tick) ch _
    have served : exec (.setTrack f tick) s = .next (u.replied 0x90 .ok []) :=
      exec_servedAtOnce (r := .setTrack f) rfl nofun nofun h u (.bare .ok) (fun p =>
        (serveSetTrack_named _ ch f number).trans ((if_pos ((allowed_iff ..).2 inRange)).trans
          ((if_neg (Bool.eq_false_iff.1 away)).trans
            (congrArg (·, _) (applyNow_addPlace ..))))) (congrArg State.lnk frame :)
    refine ⟨_, served, ?_, fun va => applyNow_sav_get (s.advance tick) ch _ va⟩
    rw [← applied_eq_settled away]
    exact congrArg (fun x : State => x.replied 0x90 .ok []) frame
  · refine exec_refused (r := .setTrack f) rfl nofun nofun h .badValue fun u => ?_
    unfold State.answer serveSetTrack
    dsimp only
    split
    next => rfl
    next ch named =>
      exact if_neg fun allowed =>
        refused ch ((channelOf_eq named).trans (by cases ch <;> rfl)) ((allowed_iff ..).1 allowed)

end Sys2Proof.Machine
end

section
set_option Elab.async false
/-! The Acquisition Sequencer (R29 to R35), said in the words of the statements: what a delivery does to each input, which entry the
arbiter begins, what an overrun holds, and how a strobe is taken or a scan abandoned. -/

namespace Sys2Proof.Machine

/-! ### Deliveries -/

theorem gridInputOf_gvIndex : ∀ p : Fin 3, gridInputOf (gvIndex p) = .gv p := by decide

theorem gridInputOf_giIndex : ∀ p : Fin 3, gridInputOf (giIndex p) = .gi p := by decide

theorem gridInputOf_injective {g o : Fin 6} (same : gridInputOf g = gridInputOf o) : g = o := by
  revert g o; decide

theorem gridInputOf_ne_va (g va : Fin 6) : gridInputOf g ≠ .va va := by
  unfold gridInputOf
  split <;> nofun

/-- A sample of a grid input goes to that input's cycle buffer. -/
theorem deliver_grid (s : State) {x : Sample} {g : Fin 6} (names : x.input = gridInputOf g) :
    s.deliver x =
      s.setGridInput g { s.gra.inputs.get g with buffer := (s.gra.inputs.get g).buffer.map fun b => b.filled x } := by
  unfold State.deliver
  split
  next va named => exact absurd (names.symm.trans named) (gridInputOf_ne_va g va)
  next p named => rw [gridInputOf_injective (names.symm.trans (named.trans (gridInputOf_gvIndex p).symm))]
  next p named => rw [gridInputOf_injective (names.symm.trans (named.trans (gridInputOf_giIndex p).symm))]

theorem deliver_va (s : State) {x : Sample} {va : Fin 6} (names : x.input = .va va) :
    s.deliver x = s.setSav va { s.sav.get va with buffer := (s.sav.get va).buffer.map fun b => b.filled x } := by
  simp only [State.deliver, names]

/-- Every input is a VA input or a grid input. -/
theorem va_or_grid (i : Input) : (∃ va, i = .va va) ∨ ∃ g, i = gridInputOf g := by
  cases i with
  | va va => exact .inl ⟨va, rfl⟩
  | gv p => exact .inr ⟨gvIndex p, (gridInputOf_gvIndex p).symm⟩
  | gi p => exact .inr ⟨giIndex p, (gridInputOf_giIndex p).symm⟩

theorem deliver_sav_get (s : State) (x : Sample) (va : Fin 6) :
    (s.deliver x).sav.get va =
      if x.input = .va va then { s.sav.get va with buffer := (s.sav.get va).buffer.map fun b => b.filled x }
      else s.sav.get va := by
  rcases va_or_grid x.input with ⟨o, names⟩ | ⟨g, names⟩
  · rw [deliver_va s names, State.setSav_sav, Tab.get_set, names]
    by_cases same : o = va
    · subst same; simp
    · simp [same]
  · rw [deliver_grid s names, if_neg fun named => gridInputOf_ne_va g va (names.symm.trans named)]
    rfl

theorem deliver_grid_get (s : State) (x : Sample) (g : Fin 6) :
    (s.deliver x).gra.inputs.get g =
      if x.input = gridInputOf g then
        { s.gra.inputs.get g with buffer := (s.gra.inputs.get g).buffer.map fun b => b.filled x }
      else s.gra.inputs.get g := by
  rcases va_or_grid x.input with ⟨va, names⟩ | ⟨o, names⟩
  · rw [deliver_va s names, if_neg fun named => gridInputOf_ne_va g va (named.symm.trans names)]
    rfl
  · rw [deliver_grid s names, State.setGridInput_gra, Tab.get_set]
    by_cases same : o = g
    · subst same; simp [names]
    · simp [same, names, show gridInputOf o ≠ gridInputOf g from fun e => same (gridInputOf_injective e)]

/-! ### The samples an overrun holds -/

theorem filled_held (b : RevBuffer) (sc : Scan) (i : Input) :
    b.filled ⟨sc.rev, i, sc.slot, if b.rev = sc.rev then ((b.slots.getLast?).map SlotSample.value).getD 0 else 0, true, false⟩ =
      b.heldFor sc := by
  unfold RevBuffer.filled RevBuffer.heldFor
  by_cases same : b.rev = sc.rev
  · simp [same, bit]
  · simp [same, Ne.symm same]

theorem bufferOf_grid (s : State) (g : Fin 6) : s.bufferOf (gridInputOf g) = (s.gra.inputs.get g).buffer := by
  cases named : gridInputOf g with
  | va va => exact absurd named (gridInputOf_ne_va g va)
  | gv p => rw [gridInputOf_injective (named.trans (gridInputOf_gvIndex p).symm)]; rfl
  | gi p => rw [gridInputOf_injective (named.trans (gridInputOf_giIndex p).symm)]; rfl

/-- A buffer that takes the held sample of its own input (R32, R35). -/
theorem heldBuffer_eq (s : State) (sc : Scan) {i : Input} {b : Option RevBuffer} (own : s.bufferOf i = b) :
    (b.map fun x => x.filled ⟨sc.rev, i, sc.slot, s.heldValue sc.rev i, true, false⟩) = b.map (RevBuffer.heldFor sc) := by
  cases b with
  | none => rfl
  | some b =>
    simp only [Option.map_some, State.heldValue, own, ← filled_held b sc i]

theorem deliverHeld_sav_get (s : State) (sc : Scan) (i : Input) (va : Fin 6) :
    (s.deliverHeld sc.rev sc.slot i).sav.get va =
      if i = .va va then { s.sav.get va with buffer := (s.sav.get va).buffer.map (RevBuffer.heldFor sc) } else s.sav.get va := by
  refine (deliver_sav_get ..).trans ?_
  split
  next names => rw [heldBuffer_eq s sc (b := (s.sav.get va).buffer) (congrArg s.bufferOf names)]
  next => rfl

theorem deliverHeld_grid_get (s : State) (sc : Scan) (i : Input) (g : Fin 6) :
    (s.deliverHeld sc.rev sc.slot i).gra.inputs.get g =
      if i = gridInputOf g then
        { s.gra.inputs.get g with buffer := (s.gra.inputs.get g).buffer.map (RevBuffer.heldFor sc) }
      else s.gra.inputs.get g := by
  refine (deliver_grid_get ..).trans ?_
  split
  next names => rw [heldBuffer_eq s sc ((congrArg s.bufferOf names).trans (bufferOf_grid s g))]
  next => rfl

/-- A table of which each step of a walk changes one entry, after the walk over a list that names no entry twice. -/
theorem foldl_get {α β : Type} {n : Nat} (read : State → Tab n α) (step : State → β → State) (name : Fin n → β) (f : α → α)
    [DecidableEq β] (each : ∀ s b i, (read (step s b)).get i = if b = name i then f ((read s).get i) else (read s).get i)
    (l : List β) (nodup : l.Nodup) (s : State) (i : Fin n) :
    (read (l.foldl step s)).get i = if name i ∈ l then f ((read s).get i) else (read s).get i := by
  induction l generalizing s with
  | nil => simp
  | cons b l ih =>
    obtain ⟨new, nodup⟩ := List.nodup_cons.1 nodup
    simp only [List.foldl_cons, ih nodup, each, List.mem_cons]
    by_cases same : b = name i
    · subst same; simp [new]
    · simp [same, Ne.symm same]

/-- What an overrun leaves of the inputs (R32). -/
theorem overrun_holds (s : State) (ch : Channel) : HoldsOverrun s (s.overrun ch) ch := by
  unfold State.overrun
  split
  next sc pending =>
    refine ⟨fun va => ?_, fun g => ?_, fun none => ?_, fun sc' pending' nodup => ?_⟩
    · exact foldl_rel (R := fun s t : State => ∀ va, t.sav.get va = { s.sav.get va with buffer := (t.sav.get va).buffer })
        (fun _ _ => rfl) (fun first second va => by rw [second va, first va]) (fun s i va => by
          rw [deliverHeld_sav_get s sc i va]; split <;> rfl) _ (s.dropScan ch) va
    · exact foldl_rel
        (R := fun s t : State => ∀ g, t.gra.inputs.get g = { s.gra.inputs.get g with buffer := (t.gra.inputs.get g).buffer })
        (fun _ _ => rfl) (fun first second g => by rw [second g, first g]) (fun s i g => by
          rw [deliverHeld_grid_get s sc i g]; split <;> rfl) _ (s.dropScan ch) g
    · simp [pending] at none
    · cases pending.symm.trans pending'
      have rest : (s.unconverted ch sc).Nodup := nodup.sublist (List.drop_sublist ..)
      have left : s.unconverted ch sc =
          sc.entries.drop (if s.acq.converter.any (fun c => c.rev.channel = ch) = true then sc.position - 1 else sc.position) := by
        unfold State.unconverted State.converting
        cases s.acq.converter <;> rfl
      dsimp only
      rw [← left]
      exact ⟨fun va => foldl_get State.sav _ Input.va (fun v => { v with buffer := v.buffer.map (RevBuffer.heldFor sc) }) (fun s b i => deliverHeld_sav_get s sc b i) _ rest (s.dropScan ch) va,
        fun g => foldl_get (fun s => s.gra.inputs) _ gridInputOf (fun v => { v with buffer := v.buffer.map (RevBuffer.heldFor sc) }) (fun s b i => deliverHeld_grid_get s sc b i) _ rest
          (s.dropScan ch) g⟩
  next none =>
    exact ⟨fun _ => rfl, fun _ => rfl, fun _ => ⟨rfl, rfl⟩, fun sc pending => by simp [none] at pending⟩

/-! ### The arbiter -/

theorem testCode_eq (s : State) (i : Input) (slot samples : Nat) : s.testCode i slot samples = testOf s.skd.mode i slot samples := by
  unfold State.testCode testOf testValue
  cases i <;> cases s.skd.mode <;> rfl

theorem nextEntry_eq (s : State) (ch : Channel) :
    ((s.acq.scans.get ch).bind fun sc => (sc.entries[sc.position]?).map fun i => (ch, sc, i)) =
      (s.nextEntry ch).map fun e => (ch, e.1, e.2) := by
  unfold State.nextEntry
  cases s.acq.scans.get ch with
  | none => rfl
  | some sc => cases entry : sc.entries[sc.position]? <;> simp [entry]

theorem arbiterChoice_eq (s : State) :
    arbiterChoice s.acq.scans =
      [Channel.tg, .th, .tl].findSome? fun ch => (s.nextEntry ch).map fun e => (ch, e.1, e.2) := by
  simp only [arbiterChoice, nextEntry_eq]

/-- A conversion begun is the entry's, at this instant, with what replaces its code (R31, R37). -/
theorem beginConversion_acts (s : State) (ch : Channel) (e : Scan × Input) (fromIdle : Bool) :
    let t := s.beginConversion ch e.1 e.2 fromIdle
    t.acq.scans = s.acq.scans.set ch (some { e.1 with position := e.1.position + 1 })
      ∧ t.acq.converter =
        some ⟨e.1.rev, e.1.slot, e.2, t.now, testOf t.skd.mode e.2 e.1.slot e.1.samples, fromIdle⟩ := by
  refine ⟨rfl, ?_⟩
  change some (⟨_, _, _, _, s.testCode _ _ _, _⟩ : Conversion) = _
  rw [testCode_eq]
  rfl

/-- The arbiter's choice depends on the scans alone; it acts on a free converter (R30). -/
theorem arbitrate_acts {s : State} (free : s.acq.converter = none) (fromIdle : Bool) :
    ArbiterActs s.acq.scans fromIdle (s.arbitrate fromIdle) := by
  unfold ArbiterActs State.arbitrate
  simp only [arbiterChoice_eq, List.findSome?, free]
  cases s.nextEntry .tg with
  | some tg => exact beginConversion_acts s .tg tg fromIdle
  | none =>
    cases s.nextEntry .th with
    | some th => exact beginConversion_acts s .th th fromIdle
    | none =>
      cases s.nextEntry .tl with
      | some tl => exact beginConversion_acts s .tl tl fromIdle
      | none => exact ⟨rfl, free⟩

theorem ArbiterActs.congr {scans : PerChannel (Option Scan)} {idle : Bool} {t u : State} (acts : ArbiterActs scans idle t)
    (acq : u.acq = t.acq) (now : u.now = t.now) (mode : u.skd.mode = t.skd.mode) : ArbiterActs scans idle u := by
  unfold ArbiterActs at acts ⊢
  rw [acq, now, mode]
  exact acts

theorem arbitrate_onlyAcq (s : State) (fromIdle : Bool) : (s.arbitrate fromIdle).sav = s.sav ∧ (s.arbitrate fromIdle).gra = s.gra := by
  unfold State.arbitrate
  split <;> exact ⟨rfl, rfl⟩

theorem arbitrate_busy {s : State} {c : Conversion} (busy : s.acq.converter = some c) (fromIdle : Bool) : s.arbitrate fromIdle = s := by
  simp [State.arbitrate, busy]

theorem wasIdle_eq (s : State) : s.wasIdle = freeAt s.acq.converter s.now := by
  unfold State.wasIdle freeAt
  cases s.acq.converter with
  | none => rfl
  | some c => simp [Bool.beq_eq_decide_eq]

/-! ### Strobes -/

/-- The scans and the converter when the conversion `c` is withdrawn for the arbiter to choose again (R30). -/
theorem withdrawn_acq (s : State) (c : Conversion) :
    (s.withdrawn c).acq.scans =
        s.acq.scans.set c.rev.channel ((s.acq.scans.get c.rev.channel).map fun sc => { sc with position := sc.position - 1 })
      ∧ (s.withdrawn c).acq.converter = none := by
  unfold State.withdrawn
  split
  next sc pending => rw [pending]; exact ⟨rfl, rfl⟩
  next none => rw [none, Option.map_none, ← none, PerChannel.set_get_self]; exact ⟨rfl, rfl⟩

theorem arbitrateCreated_onlyAcq (s : State) (idle : Bool) :
    (s.arbitrateCreated idle).sav = s.sav ∧ (s.arbitrateCreated idle).gra = s.gra := by
  unfold State.arbitrateCreated
  split
  · exact arbitrate_onlyAcq s idle
  next c _ =>
    split
    · have kept : (s.withdrawn c).sav = s.sav ∧ (s.withdrawn c).gra = s.gra := by
        unfold State.withdrawn
        split <;> exact ⟨rfl, rfl⟩
      exact ⟨(arbitrate_onlyAcq ..).1.trans kept.1, (arbitrate_onlyAcq ..).2.trans kept.2⟩
    · exact ⟨rfl, rfl⟩

/-- An overrun ends the scan and frees the converter of its conversion (R32). -/
theorem overrun_acq (s : State) (ch : Channel) :
    (s.overrun ch).acq = if (s.acq.scans.get ch).isSome then (s.dropScan ch).acq else s.acq := by
  unfold State.overrun
  split
  next sc pending =>
    rw [pending]
    exact foldl_rel (R := fun s t : State => t.acq = s.acq) (fun _ => rfl) (fun first second => second.trans first)
      (fun s i => by
        unfold State.deliverHeld State.deliver
        split <;> rfl) _ (s.dropScan ch)
  next none => rw [none]; rfl

theorem HoldsOverrun.congr {s t u : State} {ch : Channel} (holds : HoldsOverrun s t ch) (sav : u.sav = t.sav) (gra : u.gra = t.gra) :
    HoldsOverrun s u ch := by
  unfold HoldsOverrun at holds ⊢
  rw [sav, gra]
  exact holds

/-- The arbiter once a scan has been created: it acts on a free converter, chooses again when the conversion began for a scan of this
instant, and else lets the conversion go on (R30). -/
theorem arbitrateCreated_acts (s : State) (idle : Bool) :
    (s.acq.converter = none → ArbiterActs s.acq.scans idle (s.arbitrateCreated idle))
      ∧ ∀ c, s.acq.converter = some c →
        if idle then
          ArbiterActs
            (s.acq.scans.set c.rev.channel ((s.acq.scans.get c.rev.channel).map fun sc => { sc with position := sc.position - 1 }))
            true (s.arbitrateCreated idle)
        else s.arbitrateCreated idle = s := by
  refine ⟨fun free => ?_, fun c busy => ?_⟩
  · simp only [State.arbitrateCreated, free]
    exact arbitrate_acts free idle
  · obtain ⟨scans, freed⟩ := withdrawn_acq s c
    cases idle with
    | false => simp [State.arbitrateCreated, busy]
    | true =>
      simp only [State.arbitrateCreated, busy, if_true]
      rw [← scans]
      exact arbitrate_acts freed true

/-- A strobe of an open revolution is taken (R29, R30, R32). -/
theorem takeStrobe_takes {s : State} {ch : Channel} (slot : Nat) {rev : OpenRev} (opened : (s.track ch).rev = some rev) :
    TakesStrobe s (s.takeStrobe ch slot) ch rev.id slot rev.samples := by
  unfold TakesStrobe State.takeStrobe
  dsimp only
  split
  next i rest r listed opened' =>
    cases opened.symm.trans opened'
    refine ⟨fun empty => by simp [empty] at listed, fun _ => ?_⟩
    rw [listed]
    let w := (s.overrun ch).setScan ch (some ⟨rev.id, slot, rev.samples, i :: rest, 0⟩)
    have frame : OnlySampling s (w.arbitrateCreated s.wasIdle) :=
      ((overrun_onlySampling s ch).trans (setScan_onlySampling _ ch _)).trans (arbitrateCreated_onlySampling ..)
    have now : (w.arbitrateCreated s.wasIdle).now = s.now := by rw [frame]
    have table : (w.arbitrateCreated s.wasIdle).acq.table = s.acq.table := by rw [frame]
    obtain ⟨sav, gra⟩ := arbitrateCreated_onlyAcq w s.wasIdle
    have held := (overrun_holds s ch).congr (u := w.arbitrateCreated s.wasIdle) sav gra
    have scans : w.acq.scans = s.acq.scans.set ch (some ⟨rev.id, slot, rev.samples, i :: rest, 0⟩) := by
      change (State.overrun s ch).acq.scans.set ch _ = _
      rw [overrun_acq]
      split
      · exact PerChannel.set_set ..
      · rfl
    have converter : w.acq.converter =
        if (s.acq.scans.get ch).isSome then if s.converting ch then none else s.acq.converter else s.acq.converter := by
      change (State.overrun s ch).acq.converter = _
      rw [overrun_acq]
      split <;> rfl
    refine ⟨held, table, ?_⟩
    rw [now, ← wasIdle_eq, ← scans]
    obtain ⟨free, busy⟩ := arbitrateCreated_acts w s.wasIdle
    cases before : s.acq.converter with
    | none =>
      have idle : s.wasIdle = true := by rw [wasIdle_eq, before]; rfl
      have freed : w.acq.converter = none := by rw [converter]; simp [before]
      have acts := free freed
      rw [idle] at acts ⊢
      exact acts
    | some c =>
      have own : s.converting ch = decide (c.rev.channel = ch) := by simp only [State.converting, before]
      dsimp only
      split
      next ended =>
        refine free ?_
        rw [converter, if_pos ended.2, own, if_pos (decide_eq_true ended.1)]
      next goesOn =>
        have kept : w.acq.converter = some c := by
          rw [converter]
          split
          next pending => rw [own, if_neg fun same => goesOn ⟨of_decide_eq_true same, pending⟩, before]
          next => exact before
        have acts := busy c kept
        split
        next idle => rw [if_pos idle] at acts; exact acts
        next started =>
          rw [if_neg started] at acts
          rw [acts]
          exact ⟨rfl, kept⟩
  next ends =>
    have empty : s.scanList ch = [] := by
      cases listed : s.scanList ch with
      | nil => rfl
      | cons i rest => exact absurd opened (ends i rest rev listed)
    exact ⟨fun _ => ⟨rfl, rfl, rfl⟩, fun listed => absurd empty listed⟩

/-- What taking a strobe reads before it is the sampling, and after it the sampling, the instant and the mode. -/
theorem TakesStrobe.congr {s u t v : State} {ch : Channel} {rev : RevId} {slot samples : Nat}
    (takes : TakesStrobe s t ch rev slot samples) (acq : u.acq = s.acq) (sav : u.sav = s.sav) (gra : u.gra = s.gra)
    (acq' : v.acq = t.acq) (sav' : v.sav = t.sav) (gra' : v.gra = t.gra) (now : v.now = t.now) (mode : v.skd.mode = t.skd.mode) :
    TakesStrobe u v ch rev slot samples := by
  unfold TakesStrobe HoldsOverrun ArbiterActs State.scanList at takes ⊢
  rw [acq, sav, gra, acq', sav', gra', now, mode]
  exact takes

/-! ### Buffers -/

/-- A table of which each step of a walk changes one entry in a way that bears repeating. -/
theorem foldl_get_idempotent {α β : Type} {n : Nat} (read : State → Tab n α) (step : State → β → State) (name : Fin n → β) (f : α → α)
    [DecidableEq β] (idempotent : ∀ x, f (f x) = f x)
    (each : ∀ s b i, (read (step s b)).get i = if b = name i then f ((read s).get i) else (read s).get i)
    (l : List β) (s : State) (i : Fin n) :
    (read (l.foldl step s)).get i = if name i ∈ l then f ((read s).get i) else (read s).get i := by
  induction l generalizing s with
  | nil => simp
  | cons b l ih =>
    simp only [List.foldl_cons, ih, each, List.mem_cons]
    by_cases same : b = name i
    · subst same; by_cases again : name i ∈ l <;> simp [again, idempotent]
    · simp [same, Ne.symm same]

theorem setBuffers_get (s : State) (ch : Channel) (b : Option RevBuffer) (va : Fin 6) :
    (s.setBuffers ch b).sav.get va = if va ∈ s.vaList ch then { s.sav.get va with buffer := b } else s.sav.get va :=
  foldl_get_idempotent State.sav _ id (fun v => { v with buffer := b }) (fun _ => rfl) (fun s o va => by
    rw [State.setSav_sav, Tab.get_set]
    by_cases same : o = va <;> simp [same]) (s.vaList ch) s va

theorem setCycleBuffers_get (s : State) (b : Option RevBuffer) (g : Fin 6) :
    (s.setCycleBuffers b).gra.inputs.get g =
      if g ∈ s.present then { s.gra.inputs.get g with buffer := b } else s.gra.inputs.get g :=
  foldl_get_idempotent (fun s => s.gra.inputs) _ id (fun v => { v with buffer := b }) (fun _ => rfl) (fun s o g => by
    rw [State.setGridInput_gra, Tab.get_set]
    by_cases same : o = g <;> simp [same]) s.present s g

theorem setBuffers_eq (s : State) (ch : Channel) (b : Option RevBuffer) :
    s.setBuffers ch b = { s with
      sav := Tab.ofFn fun va => { s.sav.get va with buffer := if va ∈ s.vaList ch then b else (s.sav.get va).buffer } } := by
  have sav : (s.setBuffers ch b).sav =
      Tab.ofFn fun va => { s.sav.get va with buffer := if va ∈ s.vaList ch then b else (s.sav.get va).buffer } :=
    Tab.ext_get fun va => by
      rw [setBuffers_get, Tab.get_ofFn]
      split <;> rfl
  rw [← sav]
  exact setBuffers_onlySav s ch b

theorem setCycleBuffers_eq (s : State) (b : Option RevBuffer) :
    s.setCycleBuffers b = { s with
      gra := { s.gra with
        inputs := Tab.ofFn fun g =>
          { s.gra.inputs.get g with buffer := if g ∈ s.present then b else (s.gra.inputs.get g).buffer } } } := by
  have inputs : (s.setCycleBuffers b).gra.inputs =
      Tab.ofFn fun g => { s.gra.inputs.get g with buffer := if g ∈ s.present then b else (s.gra.inputs.get g).buffer } :=
    Tab.ext_get fun g => by
      rw [setCycleBuffers_get, Tab.get_ofFn]
      split <;> rfl
  rw [← inputs]
  exact setCycleBuffers_onlyGridInputs s b

/-- What dropping leaves: the receivers of the channel hold no buffer, and TG's open block is gone (R12, R41, R58, R66). -/
theorem dropGathered_eq (s : State) (ch : Channel) :
    s.dropGathered ch = { s with
      sav := Tab.ofFn fun va =>
        { s.sav.get va with buffer := if ch ≠ .tg ∧ va ∈ s.vaList ch then none else (s.sav.get va).buffer }
      gra := { s.gra with
        inputs := Tab.ofFn fun g =>
          { s.gra.inputs.get g with buffer := if ch = .tg ∧ g ∈ s.present then none else (s.gra.inputs.get g).buffer }
        block := if ch = .tg then none else s.gra.block } } := by
  have sav : (Tab.ofFn fun va => s.sav.get va) = s.sav := Tab.ext_get fun va => Tab.get_ofFn ..
  have inputs : (Tab.ofFn fun g => s.gra.inputs.get g) = s.gra.inputs := Tab.ext_get fun g => Tab.get_ofFn ..
  cases ch with
  | tl | th => simp [State.dropGathered, setBuffers_eq, inputs]
  | tg => simp [State.dropGathered, State.discardBlock, setCycleBuffers_eq, sav]

/-- The inputs of a channel start to gather for its open revolution (R39, R58). -/
theorem freshBuffers_gathering {s : State} {ch : Channel} {rev : OpenRev} (opened : (s.track ch).rev = some rev)
    (own : rev.id.channel = ch) : s.freshBuffers ch = s.gatheringFor rev.id := by
  have sav : (Tab.ofFn fun va => s.sav.get va) = s.sav := Tab.ext_get fun va => Tab.get_ofFn ..
  have inputs : (Tab.ofFn fun g => s.gra.inputs.get g) = s.gra.inputs := Tab.ext_get fun g => Tab.get_ofFn ..
  cases ch with
  | tl | th => simp [State.freshBuffers, opened, setBuffers_eq, State.gatheringFor, own, inputs, RevBuffer.empty]
  | tg => simp [State.freshBuffers, opened, setCycleBuffers_eq, State.gatheringFor, own, sav, RevBuffer.empty]

/-! ### Abandoned scans -/

/-- A revolution discarded: its scan is gone and the arbiter acts (R33). -/
theorem discardRevolution_abandons (s : State) (ch : Channel) : AbandonsScan s (s.discardRevolution ch) ch := by
  let w := ((s.setTrack ch { s.track ch with rev := none, strobes := none }).dropScan ch).dropGathered ch
  have acq : w.acq = (s.dropScan ch).acq := by rw [show w = _ from dropGathered_eq ..]; rfl
  have now : w.now = s.now := by rw [show w = _ from dropGathered_eq ..]; rfl
  have frame : OnlySampling w (s.discardRevolution ch) := arbitrate_onlySampling w s.wasIdle
  have now' : (s.discardRevolution ch).now = s.now := (by rw [frame] : (s.discardRevolution ch).now = w.now).trans now
  have table : (s.discardRevolution ch).acq.table = s.acq.table :=
    (by rw [frame] : (s.discardRevolution ch).acq.table = w.acq.table).trans (by rw [acq]; rfl)
  have scans : w.acq.scans = s.acq.scans.set ch none := by rw [acq]; rfl
  have converter : w.acq.converter = if s.converting ch then none else s.acq.converter := by rw [acq]; rfl
  refine ⟨table, ?_⟩
  rw [now', ← scans]
  cases before : s.acq.converter with
  | none =>
    have idle : s.wasIdle = true := by rw [wasIdle_eq, before]; rfl
    have acts := arbitrate_acts (s := w) (by rw [converter, before]; simp) s.wasIdle
    rw [idle] at acts
    rw [show s.discardRevolution ch = w.arbitrate true from congrArg w.arbitrate idle]
    exact acts
  | some c =>
    have own : s.converting ch = decide (c.rev.channel = ch) := by simp only [State.converting, before]
    dsimp only
    rw [← before, ← wasIdle_eq]
    split
    next freed => exact arbitrate_acts (by rw [converter, own, if_pos (decide_eq_true freed)]) _
    next other =>
      have busy : w.acq.converter = some c := by
        rw [converter, own, if_neg fun same => other (of_decide_eq_true same), before]
      rw [show s.discardRevolution ch = w from arbitrate_busy busy _]
      exact ⟨rfl, busy.trans before.symm⟩

theorem AbandonsScan.congr {s u t v : State} {ch : Channel} (abandons : AbandonsScan s t ch) (acq : u.acq = s.acq)
    (acq' : v.acq = t.acq) (now : v.now = t.now) (mode : v.skd.mode = t.skd.mode) : AbandonsScan u v ch := by
  unfold AbandonsScan ArbiterActs at abandons ⊢
  rw [acq, acq', now, mode]
  exact abandons

end Sys2Proof.Machine
end

section
set_option Elab.async false
/-! SET_SCAN (R26 to R28, R74): the table a request carries, and what an accepted one leaves. -/

namespace Sys2Proof.Machine

/-! ### The numbers of inputs and start pointers -/

/-- The number that stands for a scan-table entry's input (R26, R176). -/
def entryNumber : Option Input → Nat
  | none => 255
  | some (.va i) => i.val
  | some (.gv p) => 6 + p.val
  | some (.gi p) => 9 + p.val

theorem entryInputOf_number (e : Option Input) : entryInputOf (entryNumber e) = some e := by
  match e with
  | none => rfl
  | some (.va i) => revert i; decide
  | some (.gv p) => revert p; decide
  | some (.gi p) => revert p; decide

theorem entryInputOf_isSome {raw : Nat} (named : (entryInputOf raw).isSome = true) : raw < 12 ∨ raw = 255 := by
  by_contra other
  obtain ⟨high, notNone⟩ := not_or.1 other
  have unnamed : inputOf raw = none := by
    rw [inputOf, if_neg (show ¬raw < 6 by omega), gridOf, if_neg (show ¬raw < 6 by omega), vaOf_high (show 6 ≤ raw - 6 by omega)]
    rfl
  simp [entryInputOf, unnamed, namedValue, notNone] at named

theorem startOf_number (start : Option (Fin 24)) : startOf ((start.map Fin.val).getD 255) = some start := by
  cases start with
  | none => rfl
  | some k => simp [startOf]

theorem startOf_range {raw : Nat} {start : Option (Fin 24)} (named : startOf raw = some start) : raw < 24 ∨ raw = 255 := by
  unfold startOf at named
  split at named
  next below => exact .inl below
  next =>
    split at named
    next none => exact .inr none
    next => cases named

/-! ### The table a request carries -/

theorem scanTableOf_carried {t : ScanTable} {f : ScanFields} (carried : t.CarriedBy f) : scanTableOf f = some t := by
  obtain ⟨entries, tl, th, tg⟩ := carried
  have input (k : Fin 24) : entryInputOf (f.entries.get k).input = some (t.entries.get k).input := by
    rw [← entryInputOf_number, (entries k).2]
    rcases (t.entries.get k).input with _ | _ | _ | _ <;> rfl
  have named : (f.entries.list.all fun e => (entryInputOf e.input).isSome) = true :=
    List.all_eq_true.2 ((Tab.forall_mem_iff f.entries fun e => (entryInputOf e.input).isSome = true).2 fun k => by rw [input]; rfl)
  have same : f.entries.map (fun e => ⟨(entryInputOf e.input).getD none, e.stop⟩) = t.entries := Tab.ext_get fun k => by
    rw [Tab.get_map, input, (entries k).1]
    rfl
  simp only [scanTableOf, tl, th, tg, startOf_number, named, if_true, same]

theorem scanTableOf_numbers {t : ScanTable} {f : ScanFields} (read : scanTableOf f = some t) : NumbersInRange f := by
  unfold scanTableOf at read
  split at read
  next tl th tg startTl startTh startTg =>
    split at read
    next named =>
      refine ⟨fun k => entryInputOf_isSome ?_, ?_⟩
      · exact (Tab.forall_mem_iff f.entries fun e => (entryInputOf e.input).isSome = true).1 (List.all_eq_true.1 named) k
      · simp only [List.forall_mem_cons, List.not_mem_nil, false_implies, implies_true, and_true]
        exact ⟨startOf_range startTl, startOf_range startTh, startOf_range startTg⟩
    next => cases read
  next => cases read

/-! ### What is discarded -/

theorem arbitrate_eq (s : State) (fromIdle : Bool) : s.arbitrate fromIdle = { s with acq := (s.arbitrate fromIdle).acq } := by
  unfold State.arbitrate
  split <;> rfl

/-- A discarded revolution but for the sequencer, whose part is `discardRevolution_abandons` (R12). -/
theorem discardRevolution_eq (s : State) (ch : Channel) :
    s.discardRevolution ch = { s with
      trk := s.trk.set ch { s.track ch with rev := none, strobes := none }
      acq := (s.discardRevolution ch).acq
      sav := Tab.ofFn fun va =>
        { s.sav.get va with buffer := if ch ≠ .tg ∧ va ∈ s.vaList ch then none else (s.sav.get va).buffer }
      gra := { s.gra with
        inputs := Tab.ofFn fun g =>
          { s.gra.inputs.get g with buffer := if ch = .tg ∧ g ∈ s.present then none else (s.gra.inputs.get g).buffer }
        block := if ch = .tg then none else s.gra.block } } := by
  unfold State.discardRevolution
  rw [arbitrate_eq, dropGathered_eq]
  rfl

/-- A channel without an open revolution has nothing to discard (R28). -/
theorem discardIfOpen_eq (s : State) (ch : Channel) :
    s.discardIfOpen ch = { s with
      trk := s.trk.set ch (s.track ch).discarded
      acq := (s.discardIfOpen ch).acq
      sav := Tab.ofFn fun va =>
        { s.sav.get va with
          buffer := if (ch ≠ .tg ∧ va ∈ s.vaList ch) ∧ (s.track ch).rev.isSome then none else (s.sav.get va).buffer }
      gra := { s.gra with
        inputs := Tab.ofFn fun g =>
          { s.gra.inputs.get g with
            buffer := if (ch = .tg ∧ g ∈ s.present) ∧ (s.track ch).rev.isSome then none else (s.gra.inputs.get g).buffer }
        block := if ch = .tg ∧ (s.track ch).rev.isSome then none else s.gra.block } } := by
  unfold State.discardIfOpen Track.discarded
  by_cases opened : (s.track ch).rev.isSome = true
  · simp only [opened, if_true, and_true]
    exact discardRevolution_eq s ch
  · have sav : (Tab.ofFn fun va => s.sav.get va) = s.sav := Tab.ext_get fun va => Tab.get_ofFn ..
    have inputs : (Tab.ofFn fun g => s.gra.inputs.get g) = s.gra.inputs := Tab.ext_get fun g => Tab.get_ofFn ..
    have trk : s.trk.set ch (s.track ch) = s.trk := PerChannel.set_get_self ..
    simp [opened, sav, inputs, trk]

theorem discardIfOpen_table (s : State) (ch : Channel) : (s.discardIfOpen ch).acq.table = s.acq.table :=
  discardIfOpen_evolves s ch .table (by decide)

theorem dropScan_converter (s : State) (ch : Channel) :
    (s.dropScan ch).acq.converter = s.acq.converter.filter fun c => c.rev.channel ≠ ch := by
  change (if s.converting ch then none else s.acq.converter) = _
  unfold State.converting
  cases s.acq.converter with
  | none => rfl
  | some c => by_cases own : c.rev.channel = ch <;> simp [Option.filter, own]

/-- With no channel's scan left, no conversion is left either (R33). -/
theorem dropAllScans_acq (s : State) :
    (((s.dropScan .tl).dropScan .th).dropScan .tg).acq = ⟨s.acq.table, ⟨none, none, none⟩, none⟩ := by
  have converter : (((s.dropScan .tl).dropScan .th).dropScan .tg).acq.converter = none := by
    rw [dropScan_converter, dropScan_converter, dropScan_converter]
    cases s.acq.converter with
    | none => rfl
    | some c => cases own : c.rev.channel <;> simp [Option.filter, own]
  exact congrArg (fun c => (⟨s.acq.table, ⟨none, none, none⟩, c⟩ : Acq)) converter

/-- The same but for the channels, the sequencer, the averager and the grid analyzer. -/
def OnlyGathering (s t : State) : Prop := t = { s with trk := t.trk, acq := t.acq, sav := t.sav, gra := t.gra }

theorem discardIfOpen_onlyGathering (s : State) (ch : Channel) : OnlyGathering s (s.discardIfOpen ch) := by
  unfold OnlyGathering
  rw [discardIfOpen_eq]

theorem OnlyGathering.trans {s t u : State} (h : OnlyGathering s t) (k : OnlyGathering t u) : OnlyGathering s u := by
  unfold OnlyGathering at *; rw [k, h]

theorem discardIfOpen_sav_get (s : State) (ch : Channel) (va : Fin 6) :
    (s.discardIfOpen ch).sav.get va = { s.sav.get va with
      buffer := if (ch ≠ .tg ∧ va ∈ s.vaList ch) ∧ (s.track ch).rev.isSome then none else (s.sav.get va).buffer } := by
  rw [discardIfOpen_eq]
  exact Tab.get_ofFn ..

theorem discardIfOpen_gra (s : State) (ch : Channel) :
    (s.discardIfOpen ch).gra = { s.gra with
      inputs := Tab.ofFn fun g =>
        { s.gra.inputs.get g with
          buffer := if (ch = .tg ∧ g ∈ s.present) ∧ (s.track ch).rev.isSome then none else (s.gra.inputs.get g).buffer }
      block := if ch = .tg ∧ (s.track ch).rev.isSome then none else s.gra.block } := by
  rw [discardIfOpen_eq]

theorem discardIfOpen_gra_shaft (s : State) {ch : Channel} (shaft : ch ≠ .tg) : (s.discardIfOpen ch).gra = s.gra := by
  have inputs : (Tab.ofFn fun g => s.gra.inputs.get g) = s.gra.inputs := Tab.ext_get fun g => Tab.get_ofFn ..
  rw [discardIfOpen_gra]
  simp [shaft, inputs]

theorem discardIfOpen_vaList (s : State) (ch o : Channel) : (s.discardIfOpen ch).vaList o = s.vaList o := by
  unfold State.vaList State.scanList
  rw [discardIfOpen_table]

theorem discardIfOpen_present (s : State) (ch : Channel) : (s.discardIfOpen ch).present = s.present := by
  unfold State.present State.scanList
  rw [discardIfOpen_table]

theorem discardIfOpen_track (s : State) {ch o : Channel} (other : o ≠ ch) : (s.discardIfOpen ch).track o = s.track o := by
  rw [State.track, discardIfOpen_trk, PerChannel.get_set_ne _ _ other]
  rfl

/-- The state without its revolutions and scans (R28). -/
theorem stripped_eq (s : State) :
    s.stripped = { s with
      trk := s.stripped.trk
      acq := ⟨s.acq.table, ⟨none, none, none⟩, none⟩
      sav := Tab.ofFn fun va =>
        { s.sav.get va with
          buffer :=
            if va ∈ s.vaList .tl ∧ (s.track .tl).rev.isSome ∨ va ∈ s.vaList .th ∧ (s.track .th).rev.isSome then none
            else (s.sav.get va).buffer }
      gra := { s.gra with
        inputs := Tab.ofFn fun g =>
          { s.gra.inputs.get g with
            buffer := if g ∈ s.present ∧ (s.track .tg).rev.isSome then none else (s.gra.inputs.get g).buffer }
        block := if (s.track .tg).rev.isSome then none else s.gra.block } } := by
  let a := s.discardIfOpen .tl
  let b := a.discardIfOpen .th
  let c := b.discardIfOpen .tg
  have frame : OnlyGathering s c :=
    ((discardIfOpen_onlyGathering s .tl).trans (discardIfOpen_onlyGathering a .th)).trans (discardIfOpen_onlyGathering b .tg)
  have acq : s.stripped.acq = ⟨s.acq.table, ⟨none, none, none⟩, none⟩ := by
    refine (dropAllScans_acq c).trans ?_
    rw [show c.acq.table = s.acq.table from
      (discardIfOpen_table b .tg).trans ((discardIfOpen_table a .th).trans (discardIfOpen_table s .tl))]
  have sav : c.sav = Tab.ofFn fun va =>
      { s.sav.get va with
        buffer :=
          if va ∈ s.vaList .tl ∧ (s.track .tl).rev.isSome ∨ va ∈ s.vaList .th ∧ (s.track .th).rev.isSome then none
          else (s.sav.get va).buffer } := Tab.ext_get fun va => by
    rw [discardIfOpen_sav_get b, discardIfOpen_sav_get a, discardIfOpen_sav_get s, discardIfOpen_vaList,
      discardIfOpen_track s (show Channel.th ≠ .tl by decide), Tab.get_ofFn]
    by_cases tl : va ∈ s.vaList .tl ∧ (s.track .tl).rev.isSome <;> by_cases th : va ∈ s.vaList .th ∧ (s.track .th).rev.isSome <;>
      simp [tl, th]
  have opened : b.track .tg = s.track .tg :=
    (discardIfOpen_track a (by decide)).trans (discardIfOpen_track s (by decide))
  have present : b.present = s.present := (discardIfOpen_present a .th).trans (discardIfOpen_present s .tl)
  have gra : c.gra = { s.gra with
      inputs := Tab.ofFn fun g =>
        { s.gra.inputs.get g with
          buffer := if g ∈ s.present ∧ (s.track .tg).rev.isSome then none else (s.gra.inputs.get g).buffer }
      block := if (s.track .tg).rev.isSome then none else s.gra.block } := by
    have shafts : b.gra = s.gra := (discardIfOpen_gra_shaft a (by decide)).trans (discardIfOpen_gra_shaft s (by decide))
    rw [discardIfOpen_gra b, shafts, opened, present]
    simp only [true_and]
  rw [← acq, ← sav, ← gra]
  exact congrArg (fun x : State => ((x.dropScan .tl).dropScan .th).dropScan .tg) frame

/-! ### The table replaced -/

theorem rewired_onlySav (s : State) (t : ScanTable) :
    s.rewired t = { s.stripped with acq := { s.stripped.acq with table := t }, sav := (s.rewired t).sav } := by
  have moved (u : State) (va : Fin 6) : OnlySav u (u.moveInput va) := by
    unfold State.moveInput
    dsimp only
    split <;> rfl
  exact foldl_rel OnlySav.refl OnlySav.trans moved allVa { s.stripped with acq := { s.stripped.acq with table := t } }

theorem owner_eq_find (t : ScanTable) (i : Input) : t.owner i = [Channel.tl, .th, .tg].find? fun ch => i ∈ t.list ch := by
  unfold ScanTable.owner
  by_cases tl : i ∈ t.list .tl <;> by_cases th : i ∈ t.list .th <;> by_cases tg : i ∈ t.list .tg <;> simp [tl, th, tg]

theorem replaceTable_eq_fields (s : State) (t : ScanTable) :
    s.replaceTable t = { s with
      trk := (s.replaceTable t).trk
      acq := ⟨t, ⟨none, none, none⟩, none⟩
      sav := (s.replaceTable t).sav
      gra := { s.gra with
        block := if (s.track .tg).rev.isSome then none else s.gra.block
        inputs := (s.replaceTable t).gra.inputs } } := by
  have frame := rewired_onlySav s t
  rw [stripped_eq] at frame
  rw [replaceTable_eq, frame]
  rfl

theorem discarded_eq (t : Track) :
    t.discarded = { t with rev := none, strobes := if t.rev.isSome then none else t.strobes } := by
  unfold Track.discarded
  split
  next => rfl
  next unopened => rw [← Option.not_isSome_iff_eq_none.1 unopened]

theorem discarded_n (t : Track) : t.discarded.settings.n = t.settings.n := by
  unfold Track.discarded
  split <;> rfl

theorem replaceTable_sav_get (s : State) (t : ScanTable) (va : Fin 6) :
    (s.replaceTable t).sav.get va =
      let owner := [Channel.tl, .th, .tg].find? fun ch => .va va ∈ t.list ch
      let v := s.sav.get va
      let w := { v with
        owner := owner
        buffer :=
          if va ∈ s.vaList .tl ∧ (s.track .tl).rev.isSome ∨ va ∈ s.vaList .th ∧ (s.track .th).rev.isSome then none else v.buffer }
      if owner = v.owner then w else w.emptied s := by
  have samples : State.samplesOf s.stripped = s.samplesOf := by
    funext ch
    simp only [State.samplesOf, stripped_track, discarded_n]
  rw [replaceTable_sav, rewired_input, owner_eq_find, samples, stripped_eq, Tab.get_ofFn]
  dsimp only [Sav.moved]
  split
  next same => rw [← same]
  next => rfl

theorem replaceTable_grid_get (s : State) (t : ScanTable) (g : Fin 6) :
    (s.replaceTable t).gra.inputs.get g =
      let i := s.gra.inputs.get g
      if gridInputOf g ∈ s.scanList .tg ↔ gridInputOf g ∈ t.list .tg then
        { i with buffer := if gridInputOf g ∈ s.scanList .tg ∧ (s.track .tg).rev.isSome then none else i.buffer }
      else ⟨none, none, ⟨false, 0, 0, none⟩, ⟨false, 0, 0, none⟩⟩ := by
  have present : g ∈ (s.rewired t).present ↔ gridInputOf g ∈ t.list .tg := by
    rw [mem_present, rewired_onlySav]
    rfl
  have gra : (s.rewired t).gra = s.stripped.gra := by rw [rewired_onlySav]
  rw [replaceTable_eq]
  simp only [Gra.rescanned, Tab.get_ofFn, present, mem_present s, gra]
  rw [stripped_eq]
  simp only [Tab.get_ofFn, mem_present s]
  rfl

/-- The link has no part in it. -/
theorem replaceTable_addPlace (s : State) (t : ScanTable) (p : Place) :
    (s.addPlace p).replaceTable t = (s.replaceTable t).addPlace p := by
  have trk : ((s.addPlace p).replaceTable t).trk = (s.replaceTable t).trk := PerChannel.ext_get fun ch =>
    (replaceTable_track (s.addPlace p) t ch).trans (replaceTable_track s t ch).symm
  have sav : ((s.addPlace p).replaceTable t).sav = (s.replaceTable t).sav := Tab.ext_get fun va =>
    (replaceTable_sav_get (s.addPlace p) t va).trans (replaceTable_sav_get s t va).symm
  have inputs : ((s.addPlace p).replaceTable t).gra.inputs = (s.replaceTable t).gra.inputs := Tab.ext_get fun g =>
    (replaceTable_grid_get (s.addPlace p) t g).trans (replaceTable_grid_get s t g).symm
  rw [replaceTable_eq_fields (s.addPlace p), replaceTable_eq_fields s, trk, sav, inputs]
  rfl

/-! ### SET_SCAN -/

theorem serveSetScan_accepted (s : State) {t : ScanTable} {f : ScanFields} (carried : t.CarriedBy f)
    (listed : ∀ ch, t.listValid ch = true) (disjoint : t.disjoint = true) : serveSetScan f s = (s.replaceTable t, .bare .ok) := by
  simp [serveSetScan, scanTableOf_carried carried, listed, disjoint]

/-- Settles O22. -/
theorem setScanReplacesTheTable : Obligations.SetScanReplacesTheTable := by
  intro s tick f h
  refine ⟨fun table lists carried listed disjoint => ?_, fun refused => ?_, fun table lists carried listed shared => ?_⟩
  · have valid (ch : Channel) : table.listValid ch = true ∧ lists.get ch = table.list ch := (lists_iff ..).1 (listed ch)
    have served : exec (.setScan f tick) s = .next (((s.advance tick).replaceTable table).replied 0x92 .ok []) := by
      refine exec_servedAtOnce (r := .setScan f) rfl nofun nofun h _ (.bare .ok) (fun p => ?_) ?_
      · rw [← replaceTable_addPlace]
        refine serveSetScan_accepted _ carried (fun ch => (valid ch).1) (decide_eq_true ?_)
        rw [← (valid .tl).2, ← (valid .th).2, ← (valid .tg).2]
        exact disjoint
      · rw [replaceTable_eq_fields]
        rfl
    have frame := replaceTable_eq_fields (s.advance tick) table
    have tracks := replaceTable_track (s.advance tick) table
    have inputs := replaceTable_sav_get (s.advance tick) table
    have grid := replaceTable_grid_get (s.advance tick) table
    have owned : ∀ ch, lists.get ch = table.list ch := fun ch => (valid ch).2
    generalize (s.advance tick).replaceTable table = u at served frame tracks inputs grid
    refine ⟨fun ch => (owned ch).symm, _, served, ?_, fun ch => ?_, fun va => ?_, fun g => ?_⟩
    · exact congrArg (fun x : State => x.replied 0x92 .ok []) frame
    · exact (tracks ch).trans (discarded_eq (s.track ch))
    · simp only [owned]
      exact inputs va
    · rw [show lists.tg = table.list .tg from owned .tg]
      exact grid g
  · refine exec_refused (r := .setScan f) rfl nofun nofun h .badValue fun u => ?_
    unfold State.answer serveSetScan
    dsimp only
    split
    next => rfl
    next table read =>
      obtain ⟨other, ch, carried, unlisted⟩ := refused.resolve_left fun out => out (scanTableOf_numbers read)
      cases read.symm.trans (scanTableOf_carried carried)
      refine if_neg fun ⟨tl, th, tg⟩ => unlisted (table.list ch) ((listValid_iff ..).1 ?_)
      cases ch <;> assumption
  · have valid (ch : Channel) : table.listValid ch = true ∧ lists.get ch = table.list ch := (lists_iff ..).1 (listed ch)
    refine exec_refused (r := .setScan f) rfl nofun nofun h .conflict fun u => ?_
    have joint : table.disjoint = false := by
      refine decide_eq_false ?_
      rw [← (valid .tl).2, ← (valid .th).2, ← (valid .tg).2]
      exact shared
    simp [State.answer, serveSetScan, scanTableOf_carried carried, valid, joint]

end Sys2Proof.Machine
end

section
set_option Elab.async false
/-! The events of the Acquisition Sequencer (R13, R29 to R37) and the edges of a channel that follows no pulses yet (R3, R6, R11). -/

namespace Sys2Proof.Machine

theorem atDue_running {s : State} (running : s.phase = .running) (due : Tick) (f : State → State) :
    s.atDue (some due) f = f (s.advance due) := by
  simp only [State.atDue, running]

theorem advance_max (s : State) (tick : Tick) : s.advance (max s.now tick) = s.advance tick := by
  simp [State.advance]

/-! ### Strobes -/

theorem exec_strobe {s : State} {ch : Channel} {r : StrobeRun} (running : s.phase = .running) (strobes : (s.track ch).strobes = some r)
    (left : r.next < r.count) :
    exec (.strobe ch) s = .next ((s.advance (r.base + r.next * r.interval / r.count)).fireStrobe ch r) := by
  have due : (s.track ch).strobes.bind StrobeRun.due = some (r.base + r.next * r.interval / r.count) := by
    rw [strobes]
    exact if_pos left
  change execStrobe ch s = _
  rw [execStrobe, due, atDue_running running]
  have held (t : State) (same : t.track ch = s.track ch) : t.fireNext ch = t.fireStrobe ch r := by
    simp only [State.fireNext, same, strobes]
  exact congrArg _ (held (s.advance _) rfl)

/-- A strobe without a scan list or an open revolution is ignored (R29). -/
theorem takeStrobe_ignored {s : State} {ch : Channel} (slot : Nat) (h : s.scanList ch = [] ∨ (s.track ch).rev = none) :
    s.takeStrobe ch slot = s := by
  unfold State.takeStrobe
  split
  next listed opened => simp [listed, opened] at h
  next => rfl

/-- Settles O44: the strobe that fires is taken as `takeStrobe_takes` says. -/
theorem strobeCreatesScan : Obligations.StrobeCreatesScan := by
  intro s ch r k now fired running strobes left
  have track : State.track fired ch = { k with strobes := some { r with next := r.next + 1 } } := PerChannel.get_set_self ..
  have row : exec (.strobe ch) s = .next (State.takeStrobe fired ch (r.firstSlot + r.next)) := by
    rw [exec_strobe running strobes left, ← advance_max]
    rfl
  refine ⟨fun ignored => ?_, fun v opened listed => ?_⟩
  · rw [row, takeStrobe_ignored (s := fired) _ (ignored.imp_right fun closed => by rw [track]; exact closed)]
  · have opened' : (State.track fired ch).rev = some v := by rw [track]; exact opened
    refine ⟨_, row, takeStrobe_onlySampling fired ch _, ?_⟩
    exact (takeStrobe_takes (s := fired) (r.firstSlot + r.next) opened').congr rfl rfl rfl rfl rfl rfl rfl rfl

/-! ### Conversions -/

/-- A scan without an entry left ceases to be pending (R31). -/
theorem retireScan_acq (s : State) (ch : Channel) :
    (s.retireScan ch).acq = { s.acq with
      scans :=
        if (s.acq.scans.get ch).any fun sc => sc.entries.length ≤ sc.position then s.acq.scans.set ch none else s.acq.scans } := by
  unfold State.retireScan
  cases pending : s.acq.scans.get ch with
  | none => rfl
  | some sc =>
    by_cases done : sc.entries.length ≤ sc.position
    · simp [done, State.setScan]
    · simp [done]

theorem retireScan_onlyAcq (s : State) (ch : Channel) : s.retireScan ch = { s with acq := (s.retireScan ch).acq } := by
  unfold State.retireScan
  split
  · split <;> rfl
  · rfl

theorem deliver_acq (s : State) (x : Sample) : (s.deliver x).acq = s.acq := by
  unfold State.deliver
  split <;> rfl

theorem exec_conversionComplete {s : State} {c : Conversion} (running : s.phase = .running) (converting : s.acq.converter = some c)
    (code : Code) : exec (.conversionComplete code) s = .next ((s.advance (c.began + 4)).completeConversion c code) := by
  change execConversionComplete code s = _
  rw [execConversionComplete, converting]
  refine congrArg _ ((atDue_running running ..).trans ?_)
  simp only [State.completeRunning, State.advance_acq, converting]
  rfl

/-- The buffers after a sample converted to completion (R31, R34). -/
theorem filled_converted (c : Conversion) (code : Code) (b : RevBuffer) :
    b.filled ⟨c.rev, c.input, c.slot, c.value code, false, atExtreme (c.value code)⟩ =
      let v := c.test.getD code.toInt
      if c.rev = b.rev then
        ⟨b.rev, fillSlot ⟨c.slot, v, false, decide (v = -32768 ∨ v = 32767)⟩ b.slots,
          b.clipped + if v = -32768 ∨ v = 32767 then 1 else 0⟩
      else b := by
  simp only [RevBuffer.filled, Conversion.value, atExtreme, bit]
  by_cases extreme : c.test.getD code.toInt = -32768 ∨ c.test.getD code.toInt = 32767 <;> simp [extreme]

/-- Settles O45: the sample is delivered by `deliver_sav_get` and `deliver_grid_get`, the scan retired, and the arbiter acts on the
free converter. -/
theorem conversionDelivers : Obligations.ConversionDelivers := by
  intro s code c now v filled running converting
  let x : Sample := ⟨c.rev, c.input, c.slot, c.value code, false, atExtreme (c.value code)⟩
  let retired := ((s.advance (c.began + 4)).setConverter none).retireScan c.rev.channel
  let delivered := retired.deliver x
  have fills : (fun b : RevBuffer => b.filled x) = filled := funext fun b => filled_converted c code b
  have kept := retireScan_onlyAcq ((s.advance (c.began + 4)).setConverter none) c.rev.channel
  have acq : delivered.acq = { s.acq with
      scans :=
        if (s.acq.scans.get c.rev.channel).any fun sc => sc.entries.length ≤ sc.position then s.acq.scans.set c.rev.channel none
        else s.acq.scans
      converter := none } :=
    (deliver_acq ..).trans (retireScan_acq ..)
  have arbitrated := arbitrate_onlyAcq delivered false
  refine ⟨_, exec_conversionComplete running converting code, completeConversion_onlySampling (s.advance (c.began + 4)) c code,
    fun va => ?_, fun g => ?_, ?_⟩
  · refine (congrArg (·.get va) arbitrated.1).trans ?_
    rw [deliver_sav_get, fills, show retired.sav = s.sav from (congrArg State.sav kept :)]
  · refine (congrArg (fun a : Gra => a.inputs.get g) arbitrated.2).trans ?_
    rw [deliver_grid_get, fills, show retired.gra = s.gra from (congrArg State.gra kept :)]
    exact if_congr (gridIndex_eq_some_iff ..).symm rfl rfl
  · have acts := arbitrate_acts (s := delivered) (by rw [acq]) false
    rw [acq] at acts
    exact acts

/-! ### Pulses -/

theorem edgeLeadsTo_iff (edge : Edge) (high : Bool) : edgeLeadsTo edge high = true ↔ (edge = .rising ↔ high = true) := by
  cases edge <;> cases high <;> decide

theorem lineChanged_same {t : Track} {high : Bool} (same : t.line = high) (now : Tick) : t.lineChanged high now = t := if_pos same

theorem lineChanged_changes {t : Track} {high : Bool} (changes : t.line ≠ high) (now : Tick) :
    t.lineChanged high now = { t with
      line := high
      transition :=
        if t.lock = .off then none
        else if (t.settings.edge = .rising ↔ high = true) then some ⟨now, t.settings.filter⟩
        else t.transition.filter fun x => x.seenAt + x.filter ≤ now } := by
  refine (if_neg changes).trans ?_
  simp only [edgeLeadsTo_iff]
  rfl

theorem pulse_running {s : State} (running : s.phase = .running) (ch : Channel) (high : Bool) (tick : Tick) :
    s.pulse ch high tick = (s.advance tick).setTrack ch ((s.track ch).lineChanged high (s.advance tick).now) := by
  simp only [State.pulse, running]

/-- Settles O37: by the phase, and in a running part by whether the level changes. -/
theorem pulseEntersFilter : Obligations.PulseEntersFilter := by
  intro s ch high tick t follows
  have row : exec (.pulseTransition ch high tick) s = .next (s.pulse ch high tick) := rfl
  rw [row]
  refine ⟨fun running => ?_, fun startup => ?_, fun off => ?_⟩
  · rw [pulse_running running]
    refine ⟨fun same => ?_, fun changes => ?_⟩
    · rw [lineChanged_same same]
      exact congrArg (fun trk => Host.Outcome.next ({ s.advance tick with trk := trk } : State)) (PerChannel.set_get_self ..)
    · rw [lineChanged_changes changes]
      rfl
  · simp only [State.pulse, startup]
    rfl
  · rw [show s.pulse ch high tick = s.setTrack ch { s.track ch with line := high } by simp only [State.pulse, off]]
    rfl

/-! ### Edges before the lock -/

theorem inWindow_iff (t : TrackSettings) (i : Nat) : t.inWindow i = true ↔ t.tmin ≤ i ∧ i ≤ t.tmax ∧ i < 4294967295 :=
  decide_eq_true_iff

theorem countAfter_eq (t : Track) (i : Nat) : t.countAfter i = t.countThrough i := by
  have steadily : steadyAfter i t.tprev = true ↔ ∃ prev ∈ t.tprev, ((i : Int) - prev).natAbs * 8 ≤ prev := by
    cases t.tprev <;> simp [steadyAfter, steady]
  simp only [Track.countAfter, Track.countThrough, inWindow_iff, steadily]

/-- The channel as the filter confirms the transition it holds (R3). -/
def State.confirmed (s : State) (ch : Channel) (x : Transition) : State :=
  (s.advance (x.seenAt + x.filter)).setTrack ch { s.track ch with transition := none }

theorem confirmed_track (s : State) (ch : Channel) (x : Transition) :
    (s.confirmed ch x).track ch = { s.track ch with transition := none } := PerChannel.get_set_self ..

theorem exec_countedEdge {s : State} {ch : Channel} {x : Transition} (running : s.phase = .running)
    (held : (s.track ch).transition = some x) :
    exec (.countedEdge ch) s = .next ((s.confirmed ch x).takeEdge ch x.seenAt (max s.now (x.seenAt + x.filter))) := by
  change execCountedEdge ch s = _
  rw [execCountedEdge, held]
  refine congrArg _ ((atDue_running running ..).trans ?_)
  have track : (s.advance (x.seenAt + x.filter)).track ch = s.track ch := rfl
  simp only [State.confirmHeld, track, held]
  rfl

section
variable {s : State} {ch : Channel} (edge taking : Tick)

theorem takeEdge_stalled (stalled : (s.track ch).lock = .stalled) :
    s.takeEdge ch edge taking = s.setTrack ch { s.track ch with lock := .acquiring, c := 0, ref := some edge } := by
  simp only [State.takeEdge, stalled]

theorem takeEdge_first (acquiring : (s.track ch).lock = .acquiring) (first : (s.track ch).ref = none) :
    s.takeEdge ch edge taking = s.setTrack ch { s.track ch with ref := some edge } := by
  simp only [State.takeEdge, acquiring, first]

theorem takeEdge_acquiring {ref : Tick} (acquiring : (s.track ch).lock = .acquiring) (reference : (s.track ch).ref = some ref) :
    s.takeEdge ch edge taking = s.acquireEdge ch ref edge taking := by
  simp only [State.takeEdge, acquiring, reference]

theorem takeEdge_locked {ref : Tick} (locked : (s.track ch).lock = .locked) (reference : (s.track ch).ref = some ref) :
    s.takeEdge ch edge taking = s.lockedEdge ch ref edge taking := by
  simp only [State.takeEdge, locked, reference]

theorem takeEdge_holdover (holdover : (s.track ch).lock = .holdover) :
    s.takeEdge ch edge taking =
      s.followEdge ch .locked edge taking ((s.track ch).tprev.getD 0) ((s.track ch).tprev.getD 0) false false := by
  simp only [State.takeEdge, holdover]

end

theorem setTrack_setTrack (s : State) (ch : Channel) (t u : Track) : (s.setTrack ch t).setTrack ch u = s.setTrack ch u :=
  congrArg (fun trk => ({ s with trk := trk } : State)) (PerChannel.set_set ..)

/-- Settles O38: the edge is judged by the lock state and the reference; the fourth consistent interval is O39's. -/
theorem acquiringCountsConsistentIntervals : Obligations.AcquiringCountsConsistentIntervals := by
  intro s ch x t running held
  rw [exec_countedEdge running held]
  have track := confirmed_track s ch x
  have lock : ((s.confirmed ch x).track ch).lock = t.lock := by rw [track]
  have reference : ((s.confirmed ch x).track ch).ref = t.ref := by rw [track]
  refine ⟨fun stalled => ?_, fun acquiring first => ?_, fun ref acquiring known => ?_⟩
  · rw [takeEdge_stalled _ _ (lock.trans stalled), track]
    exact congrArg _ (setTrack_setTrack ..)
  · rw [takeEdge_first _ _ (lock.trans acquiring) (reference.trans first), track]
    exact congrArg _ (setTrack_setTrack ..)
  · intro i below
    have count : ({ t with transition := none } : Track).countAfter i = t.countThrough i := countAfter_eq ..
    rw [takeEdge_acquiring _ _ (lock.trans acquiring) (reference.trans known), acquireEdge_eq, track]
    refine congrArg _ ((if_neg ?_).trans ?_)
    · change ¬4 ≤ ({ t with transition := none } : Track).countAfter i
      rw [count]
      omega
    · rw [Track.measured, show ({ t with transition := none } : Track).countAfter (intervalOf ref x.seenAt) = _ from count]
      exact setTrack_setTrack ..

end Sys2Proof.Machine
end

section
set_option Elab.async false
/-! Edges that start strobes: the fourth consistent interval (R7), and an edge inside a revolution (R8 to R10). -/

namespace Sys2Proof.Machine

/-! ### Strobes started -/

theorem startStrobes_eq (s : State) (ch : Channel) (taking : Tick) :
    s.startStrobes ch taking =
      (s.setTrack ch ((s.track ch).scheduled taking)).takeStrobe ch ((s.track ch).p * (s.track ch).settings.strobesPerInterval) := by
  rw [← scheduleStrobes_eq]
  rfl

theorem startStrobes_onlySampling (s : State) (ch : Channel) (taking : Tick) :
    OnlySampling (s.setTrack ch ((s.track ch).scheduled taking)) (s.startStrobes ch taking) := by
  rw [startStrobes_eq]
  exact takeStrobe_onlySampling ..

theorem scheduled_rev (t : Track) (taking : Tick) : (t.scheduled taking).rev = t.rev := by
  unfold Track.scheduled
  split <;> rfl

theorem startStrobes_takes {s : State} {ch : Channel} (taking : Tick) {rev : OpenRev} (opened : (s.track ch).rev = some rev) :
    TakesStrobe s (s.startStrobes ch taking) ch rev.id ((s.track ch).p * (s.track ch).settings.strobesPerInterval) rev.samples := by
  rw [startStrobes_eq]
  have opened' : ((s.setTrack ch ((s.track ch).scheduled taking)).track ch).rev = some rev := by
    rw [State.track_setTrack_self, scheduled_rev, opened]
  exact (takeStrobe_takes _ opened').congr rfl rfl rfl rfl rfl rfl rfl rfl

theorem startStrobes_closed {s : State} {ch : Channel} (taking : Tick) (closed : (s.track ch).rev = none) :
    s.startStrobes ch taking = s.setTrack ch ((s.track ch).scheduled taking) := by
  rw [startStrobes_eq]
  refine takeStrobe_ignored _ (.inr ?_)
  rw [State.track_setTrack_self, scheduled_rev, closed]

/-! ### The edges a channel that follows pulses takes -/

/-- The state as a channel that follows pulses takes an edge: the instant, and what is left in the filter. -/
def State.atEdge (s : State) (ch : Channel) (e : EdgeTaken) : State :=
  { s with now := e.taking, trk := s.trk.set ch { s.track ch with transition := e.left } }

theorem atEdge_track (s : State) (ch : Channel) (e : EdgeTaken) :
    (s.atEdge ch e).track ch = { s.track ch with transition := e.left } := PerChannel.get_set_self ..

theorem unsteady_eq (i : Nat) (tprev : Option Nat) :
    (!steadyAfter i tprev) = decide (∀ prev ∈ tprev, prev < ((i : Int) - prev).natAbs * 8) := by
  cases tprev with
  | none => simp [steadyAfter]
  | some prev =>
    by_cases within : ((i : Int) - prev).natAbs * 8 ≤ prev
    · simp [steadyAfter, steady, within, Nat.not_lt.2 within]
    · simp [steadyAfter, steady, within, Nat.lt_of_not_le within]

theorem exec_edge {s : State} {ch : Channel} {c : Instr} {e : EdgeTaken} (running : s.phase = .running) (comes : EdgeComes s ch c e) :
    e.lock.following = true
      ∧ exec c s =
        .next ((s.atEdge ch e).followEdge ch e.lock e.time e.taking e.tprev e.tprev e.unsteady e.virtual) := by
  rcases comes with ⟨x, ref, rfl, held, locked, known, low, high, counts, rfl⟩ | ⟨d, prev, rfl, locked, deadline, known, rfl⟩
    | ⟨x, prev, rfl, held, holdover, known, rfl⟩
  · refine ⟨rfl, ?_⟩
    have track := confirmed_track s ch x
    have i : intervalOf ref x.seenAt = (s.track ch).intervalTo x := by simp [Track.intervalTo, known, intervalOf, max32]
    have inside : (s.track ch).settings.inWindow ((s.track ch).intervalTo x) = true := (inWindow_iff ..).2 ⟨low, high, counts⟩
    rw [exec_countedEdge running held, takeEdge_locked (ref := ref) _ _ (by rw [track]; exact locked) (by rw [track]; exact known)]
    refine congrArg _ ((if_pos ?_).trans ?_)
    · rw [track, i]
      exact inside
    · rw [track, i, unsteady_eq]
      rfl
  · refine ⟨rfl, ?_⟩
    have due : (s.track ch).deadlineIn .locked = some (d + 3 * prev / 2) := by
      simp [Track.deadlineIn, Track.deadline, locked, deadline, known]
    have stands : s.atEdge ch ⟨.holdover, max s.now (d + 3 * prev / 2), max s.now (d + 3 * prev / 2), prev, false, true,
        (s.track ch).transition⟩ = s.advance (d + 3 * prev / 2) :=
      congrArg (fun trk => ({ s with now := max s.now (d + 3 * prev / 2), trk := trk } : State)) (PerChannel.set_get_self ..)
    change execVirtualEdge ch s = _
    rw [execVirtualEdge, due, stands]
    refine congrArg _ ((atDue_running running ..).trans ?_)
    have tprev : ((s.advance (d + 3 * prev / 2)).track ch).tprev = some prev := known
    simp only [State.virtualEdge, tprev, Option.getD_some]
    rfl
  · refine ⟨rfl, ?_⟩
    have track := confirmed_track s ch x
    have tprev : ((s.confirmed ch x).track ch).tprev = some prev := by rw [track]; exact known
    rw [exec_countedEdge running held, takeEdge_holdover _ _ (by rw [track]; exact holdover), tprev]
    rfl

/-- A channel after an edge inside a revolution, its strobes started. -/
theorem pulled_scheduled {t : Track} {e : EdgeTaken} (follows : e.lock.following = true) :
    (({ t with transition := e.left } : Track).pulled e.lock e.time e.taking e.tprev e.tprev e.unsteady e.virtual).scheduled e.taking =
      t.edgeInside e :=
  scheduled_following (t := Track.pulled ..) follows e.taking

/-- Settles O40: the edge ends no revolution, so its strobes start at once. -/
theorem edgeInsideRevolution : Obligations.EdgeInsideRevolution := by
  intro s ch c e k running comes inside
  obtain ⟨follows, row⟩ := exec_edge running comes
  let pulled := ({ k with transition := e.left } : Track).pulled e.lock e.time e.taking e.tprev e.tprev e.unsteady e.virtual
  let u := (s.atEdge ch e).setTrack ch pulled
  have track : State.track u ch = pulled := State.track_setTrack_self ..
  have started : (s.atEdge ch e).followEdge ch e.lock e.time e.taking e.tprev e.tprev e.unsteady e.virtual =
      State.startStrobes u ch e.taking := by
    rw [followEdge_eq, atEdge_track]
    exact if_neg inside
  have scheduled : State.setTrack u ch ((State.track u ch).scheduled e.taking) =
      { s with now := e.taking, trk := s.trk.set ch (k.edgeInside e) } := by
    rw [track, pulled_scheduled follows]
    refine (setTrack_setTrack ..).trans ?_
    exact congrArg (fun trk => ({ s with now := e.taking, trk := trk } : State)) (PerChannel.set_set ..)
  rw [row, started]
  refine ⟨_, rfl, ?_, fun r opened => ?_, fun closed => ?_⟩
  · have frame := startStrobes_onlySampling u ch e.taking
    rw [scheduled] at frame
    exact frame
  · have opened' : (State.track u ch).rev = some (r.after e) := by
      rw [track]
      exact congrArg (Option.map _) opened
    have takes := startStrobes_takes e.taking opened'
    rw [track] at takes
    exact takes.congr rfl rfl rfl rfl rfl rfl rfl rfl
  · have closed' : (State.track u ch).rev = none := by
      rw [track]
      exact congrArg (Option.map _) closed
    rw [startStrobes_closed e.taking closed']
    exact ⟨rfl, rfl, rfl⟩

/-! ### The lock -/

theorem EntersRegime.congr {s u t v : State} {r : Fin 8} (enters : EntersRegime s t r) (rgc : u.rgc = s.rgc) (ind : u.ind = s.ind)
    (rgc' : v.rgc = t.rgc) (ind' : v.ind = t.ind) : EntersRegime u v r := by
  unfold EntersRegime at enters ⊢
  rw [rgc, ind, rgc', ind']
  exact enters

theorem enterRegime_enters {s : State} (r : Fin 8) (absent : s.rgc.candidate = none) : EntersRegime s (s.enterRegime r) r := by
  rw [enterRegime_eq]
  refine ⟨by rw [← absent], fun va => ?_⟩
  rw [Tab.get_ofFn, ind_zeroed_eq]

theorem unpark_enters (s : State) : EntersRegime s s.unpark 1 :=
  (enterRegime_enters (s := s.clearCandidate) 1 rfl)

theorem park_enters (s : State) : EntersRegime s s.park 0 :=
  (enterRegime_enters (s := s.clearCandidate) 0 rfl)

/-- The same but for the channels, the sampling, the regime and the counters of the levels. -/
def OnlyFollowing (s t : State) : Prop :=
  t = { s with
    now := t.now, trk := t.trk, sav := t.sav, ind := t.ind, rgc := t.rgc
    acq := { s.acq with scans := t.acq.scans, converter := t.acq.converter }, gra := { s.gra with inputs := t.gra.inputs } }

theorem OnlyFollowing.trans {s t u : State} (h : OnlyFollowing s t) (k : OnlyFollowing t u) : OnlyFollowing s u := by
  unfold OnlyFollowing at *; rw [k, h]

theorem OnlySampling.following {s t : State} (h : OnlySampling s t) : OnlyFollowing s t := by
  unfold OnlySampling at h; unfold OnlyFollowing; rw [h]

theorem lockGained_regime (s : State) (ch : Channel) :
    (ch = .tl → EntersRegime s (s.lockGained ch) 1)
      ∧ (ch ≠ .tl → (s.lockGained ch).rgc = s.rgc ∧ (s.lockGained ch).ind = s.ind) := by
  cases ch with
  | tl => exact ⟨fun _ => unpark_enters s, fun other => absurd rfl other⟩
  | th | tg => exact ⟨nofun, fun _ => ⟨rfl, rfl⟩⟩

/-- The records of a list cleared when the channel locks with Z above 1, input by input (R7). -/
theorem clearedForLock_eq (s : State) (ch : Channel) (z : Nat) :
    s.clearedForLock ch z = { s with
      sav := Tab.ofFn fun va => if 1 < z ∧ va ∈ s.vaList ch then (s.sav.get va).emptied s else s.sav.get va } := by
  unfold State.clearedForLock
  split
  next several =>
    have sav : (s.clearList ch).sav =
        Tab.ofFn fun va => if 1 < z ∧ va ∈ s.vaList ch then (s.sav.get va).emptied s else s.sav.get va :=
      Tab.ext_get fun va => by
        rw [clearList_sav_get, Tab.get_ofFn]
        exact if_congr (and_iff_right several).symm rfl rfl
    rw [← sav]
    exact clearList_onlySav s ch
  next one =>
    have sav : (Tab.ofFn fun va => if 1 < z ∧ va ∈ s.vaList ch then (s.sav.get va).emptied s else s.sav.get va) = s.sav :=
      Tab.ext_get fun va => by rw [Tab.get_ofFn, if_neg fun both => one both.1]
    rw [sav]

theorem gatheringFor_congr {s t : State} (rev : RevId) (acq : t.acq = s.acq) (sav : t.sav = s.sav) (gra : t.gra = s.gra) :
    (t.gatheringFor rev).acq = (s.gatheringFor rev).acq ∧ (t.gatheringFor rev).sav = (s.gatheringFor rev).sav
      ∧ (t.gatheringFor rev).gra = (s.gatheringFor rev).gra := by
  unfold State.gatheringFor State.vaList State.present State.scanList
  rw [acq, sav, gra]
  exact ⟨rfl, rfl, rfl⟩

theorem emptied_congr_settings {s t : State} (same : ∀ o, (t.track o).settings = (s.track o).settings) (v : Sav) :
    v.emptied t = v.emptied s := by
  simp only [Sav.emptied, same]

theorem clearedForLock_onlySav (s : State) (ch : Channel) (z : Nat) : OnlySav s (s.clearedForLock ch z) := by
  unfold State.clearedForLock
  split
  · exact clearList_onlySav s ch
  · rfl

theorem lockGained_onlyFollowing (s : State) (ch : Channel) : OnlyFollowing s (s.lockGained ch) := by cases ch <;> rfl

theorem lockGained_now (s : State) (ch : Channel) : (s.lockGained ch).now = s.now := by cases ch <;> rfl

theorem lockGained_sampling (s : State) (ch : Channel) :
    (s.lockGained ch).acq = s.acq ∧ (s.lockGained ch).sav = s.sav ∧ (s.lockGained ch).gra = s.gra := by
  cases ch <;> exact ⟨rfl, rfl, rfl⟩

/-- An entry to LOCKED: the records cleared, the inputs gathering, strobe 0 taken, and TL's regime (R7, R78). -/
theorem enterLocked_locks {s : State} {ch : Channel} {k : Track} (track : s.track ch = k) (edge taking : Tick) :
    let t := s.enterLocked ch edge taking
    let id : RevId := ⟨ch, k.nextSerial⟩
    let cleared : State :=
      { s with
        sav := Tab.ofFn fun va => if 1 < k.settings.z ∧ va ∈ s.vaList ch then (s.sav.get va).emptied s else s.sav.get va }
    OnlyFollowing s t ∧ t.now = s.now ∧ TakesStrobe (cleared.gatheringFor id) t ch id 0 k.settings.n
      ∧ (ch = .tl → EntersRegime s t 1) ∧ (ch ≠ .tl → t.rgc = s.rgc ∧ t.ind = s.ind) := by
  subst track
  let a := s.setTrack ch ((s.track ch).lockedAt taking)
  let b := a.clearedForLock ch (s.track ch).settings.z
  let c := b.lockGained ch
  let d := c.openRevolution ch edge (s.track ch).settings.n false
  let opened : OpenRev := ⟨⟨ch, (s.track ch).nextSerial⟩, (s.track ch).settings.n, false, false, 0, edge⟩
  let e := d.freshBuffers ch
  have a_track : a.track ch = (s.track ch).lockedAt taking := State.track_setTrack_self ..
  have c_trk : c.trk = a.trk := (lockGained_trk ..).trans (clearedForLock_trk ..)
  have d_track : d.track ch = ((s.track ch).lockedAt taking).opening ch edge (s.track ch).settings.n false := by
    rw [State.track_def, openRevolution_trk, PerChannel.get_set_self, State.track_def, c_trk, ← State.track_def, a_track]
  have d_opened : (d.track ch).rev = some opened := by rw [d_track]; rfl
  have e_eq : e = d.gatheringFor opened.id := freshBuffers_gathering d_opened rfl
  have e_track : e.track ch = d.track ch := congrArg (PerChannel.get · ch) (freshBuffers_trk d ch)
  have e_opened : (e.track ch).rev = some opened := by rw [e_track, d_opened]
  have slot : (e.track ch).p * (e.track ch).settings.strobesPerInterval = 0 := by
    rw [e_track, d_track]
    exact Nat.zero_mul _
  have settings (o : Channel) : (a.track o).settings = (s.track o).settings := by
    by_cases same : o = ch
    · subst same; rw [a_track]; rfl
    · exact congrArg Track.settings (PerChannel.get_set_ne _ _ same)
  have sav : b.sav = Tab.ofFn fun va =>
      if 1 < (s.track ch).settings.z ∧ va ∈ s.vaList ch then (s.sav.get va).emptied s else s.sav.get va := by
    rw [show b = _ from clearedForLock_eq ..]
    exact Tab.ext_get fun va => by
      simp only [Tab.get_ofFn, emptied_congr_settings settings]
      rfl
  obtain ⟨c_acq, c_sav, c_gra⟩ := lockGained_sampling b ch
  have b_frame := clearedForLock_onlySav a ch (s.track ch).settings.z
  have d_acq : d.acq = s.acq := c_acq.trans (congrArg State.acq b_frame :)
  have d_gra : d.gra = s.gra := c_gra.trans (congrArg State.gra b_frame :)
  have frame : OnlyFollowing s (e.startStrobes ch taking) :=
    OnlyFollowing.trans (t := a) rfl (b_frame.sampling.following.trans ((lockGained_onlyFollowing b ch).trans
      (OnlyFollowing.trans (t := d) rfl ((freshBuffers_onlySampling d ch).following.trans
        (OnlyFollowing.trans (t := e.setTrack ch ((e.track ch).scheduled taking)) rfl
          (startStrobes_onlySampling e ch taking).following)))))
  have takes := startStrobes_takes taking e_opened
  rw [slot, e_eq] at takes
  obtain ⟨acq, sav', gra⟩ := gatheringFor_congr (t := d) (s := { s with
    sav := Tab.ofFn fun va => if 1 < (s.track ch).settings.z ∧ va ∈ s.vaList ch then (s.sav.get va).emptied s else s.sav.get va })
    opened.id d_acq (c_sav.trans sav) d_gra
  have strobed := startStrobes_onlySampling e ch taking
  have e_now : e.now = c.now := by rw [e_eq]; rfl
  have e_rgc : e.rgc = c.rgc := by rw [e_eq]; rfl
  have e_ind : e.ind = c.ind := by rw [e_eq]; rfl
  have now : (e.startStrobes ch taking).now = s.now :=
    (congrArg State.now strobed :).trans (e_now.trans ((lockGained_now b ch).trans (congrArg State.now b_frame :)))
  have rgc : (e.startStrobes ch taking).rgc = c.rgc := (congrArg State.rgc strobed :).trans e_rgc
  have ind : (e.startStrobes ch taking).ind = c.ind := (congrArg State.ind strobed :).trans e_ind
  have b_rgc : b.rgc = s.rgc := (congrArg State.rgc b_frame :)
  have b_ind : b.ind = s.ind := (congrArg State.ind b_frame :)
  obtain ⟨shaft, other⟩ := lockGained_regime b ch
  refine ⟨frame, now, ?_, fun tl => (shaft tl).congr b_rgc.symm b_ind.symm rgc ind, fun differs => ?_⟩
  · rw [← e_eq] at takes
    exact takes.congr (acq.symm.trans (congrArg State.acq e_eq.symm)) (sav'.symm.trans (congrArg State.sav e_eq.symm))
      (gra.symm.trans (congrArg State.gra e_eq.symm)) rfl rfl rfl rfl rfl
  · obtain ⟨sameRgc, sameInd⟩ := other differs
    exact ⟨rgc.trans (sameRgc.trans b_rgc), ind.trans (sameInd.trans b_ind)⟩

/-- Settles O39: the interval is counted, and `enterLocked_locks` says what the entry does. -/
theorem fourthIntervalLocks : Obligations.FourthIntervalLocks := by
  intro s ch x ref k i now cleared running held acquiring known fourth
  let t' : Track := { k with transition := none }
  let m := (s.confirmed ch x).setTrack ch (t'.measured i x.seenAt)
  have track := confirmed_track s ch x
  have count : t'.countAfter i = k.countThrough i := countAfter_eq ..
  have m_track : State.track m ch = t'.measured i x.seenAt := State.track_setTrack_self ..
  have row : exec (.countedEdge ch) s = .next (State.enterLocked m ch x.seenAt now) := by
    rw [exec_countedEdge running held, takeEdge_acquiring (ref := ref) _ _ (by rw [track]; exact acquiring) (by rw [track]; exact known),
      acquireEdge_eq, track]
    refine congrArg _ (if_pos ?_)
    exact count.symm ▸ fourth
  obtain ⟨frame, at', takes, shaft, other⟩ := enterLocked_locks m_track x.seenAt now
  have settings (o : Channel) : (State.track m o).settings = (s.track o).settings := by
    by_cases same : o = ch
    · subst same; rw [m_track]; rfl
    · rw [State.track_setTrack_ne _ _ same]
      exact congrArg Track.settings (PerChannel.get_set_ne _ _ same)
  have locked : (t'.measured i x.seenAt).lockedIn ch x.seenAt now = { k with
      lock := .locked, transition := none, c := k.countThrough i, p := 0, tprev := some i, ref := some x.seenAt
      deadlineFrom := some now, lastTicks := none, nextSerial := k.nextSerial + 1
      rev := some ⟨⟨ch, k.nextSerial⟩, k.settings.n, false, false, 0, x.seenAt⟩
      strobes := some ⟨now, i, k.settings.n / k.settings.z, 0, 1⟩ } := by
    rw [← count, Track.lockedIn, scheduled_following rfl]
    simp only [Track.opening, Track.lockedAt, Track.measured, TrackSettings.strobesPerInterval, Nat.zero_mul, Option.getD_some]
    rfl
  have trk := enterLocked_trk m ch x.seenAt now
  rw [m_track, locked] at trk
  have placed (v : Track) : m.trk.set ch v = s.trk.set ch v :=
    (PerChannel.set_set ..).trans (PerChannel.set_set ..)
  have sav : (Tab.ofFn fun va => if 1 < k.settings.z ∧ va ∈ s.vaList ch then (s.sav.get va).emptied s else s.sav.get va)
      = Tab.ofFn fun va => if 1 < k.settings.z ∧ va ∈ s.vaList ch then (s.sav.get va).emptied m else s.sav.get va := by
    simp only [emptied_congr_settings settings]
  obtain ⟨acq, sav', gra⟩ := gatheringFor_congr (s := { m with
    sav := Tab.ofFn fun va => if 1 < k.settings.z ∧ va ∈ s.vaList ch then (s.sav.get va).emptied m else s.sav.get va })
    (t := cleared) ⟨ch, k.nextSerial⟩ rfl sav rfl
  rw [placed] at trk
  generalize State.enterLocked m ch x.seenAt now = t at row frame at' takes shaft other trk
  unfold OnlyFollowing at frame
  rw [at', trk] at frame
  exact ⟨t, row, frame, takes.congr acq sav' gra rfl rfl rfl rfl rfl,
    fun tl => (shaft tl).congr rfl rfl rfl rfl, other⟩

end Sys2Proof.Machine
end

section
set_option Elab.async false
/-! A channel that leaves LOCKED or HOLDOVER outside a close: an interval outside the window (R8), and the deadline in HOLDOVER (R10,
R11), each followed by the staged settings (R20). -/

namespace Sys2Proof.Machine

/-! ### Leaving lock -/

/-- The same but for the channels, the sampling, TG's open block, the regime and the counters of the levels. -/
def OnlyUnlocking (s t : State) : Prop :=
  t = { s with
    trk := t.trk, sav := t.sav, ind := t.ind, rgc := t.rgc, acq := t.acq, gra := t.gra }

theorem OnlyUnlocking.trans {s t u : State} (h : OnlyUnlocking s t) (k : OnlyUnlocking t u) : OnlyUnlocking s u := by
  unfold OnlyUnlocking at *; rw [k, h]

theorem discardRevolution_onlyUnlocking (s : State) (ch : Channel) : OnlyUnlocking s (s.discardRevolution ch) := by
  unfold OnlyUnlocking
  rw [discardRevolution_eq]

theorem lockLost_onlyUnlocking (s : State) (ch : Channel) : OnlyUnlocking s (s.lockLost ch) := by cases ch <;> rfl

theorem leaveLock_onlyUnlocking (s : State) (ch : Channel) (target : LockState) : OnlyUnlocking s (s.leaveLock ch target) :=
  (discardRevolution_onlyUnlocking s ch).trans (OnlyUnlocking.trans (t := State.setTrack (s.discardRevolution ch) ch _) rfl
    (lockLost_onlyUnlocking ..))

theorem lockLost_keeps (s : State) (ch : Channel) :
    (s.lockLost ch).acq = s.acq ∧ (s.lockLost ch).sav = s.sav ∧ (s.lockLost ch).now = s.now
      ∧ (s.lockLost ch).skd.mode = s.skd.mode := by
  cases ch <;> exact ⟨rfl, rfl, rfl, rfl⟩

theorem lockLost_moves (s : State) (ch : Channel) :
    (s.lockLost ch).gra = { s.gra with block := if ch = .tg then none else s.gra.block }
      ∧ (s.lockLost ch).gra.inputs = s.gra.inputs
      ∧ (ch = .tl → EntersRegime s (s.lockLost ch) 0)
      ∧ (ch ≠ .tl → (s.lockLost ch).rgc = s.rgc ∧ (s.lockLost ch).ind = s.ind) := by
  cases ch with
  | tl => exact ⟨rfl, rfl, fun _ => park_enters s, fun other => absurd rfl other⟩
  | th | tg => exact ⟨rfl, rfl, nofun, fun _ => ⟨rfl, rfl⟩⟩

theorem discardRevolution_sav_get (s : State) (ch : Channel) (va : Fin 6) :
    (s.discardRevolution ch).sav.get va =
      { s.sav.get va with buffer := if ch ≠ .tg ∧ va ∈ s.vaList ch then none else (s.sav.get va).buffer } := by
  rw [discardRevolution_eq]
  exact Tab.get_ofFn ..

theorem discardRevolution_grid_get (s : State) (ch : Channel) (g : Fin 6) :
    (s.discardRevolution ch).gra.inputs.get g =
      { s.gra.inputs.get g with buffer := if ch = .tg ∧ g ∈ s.present then none else (s.gra.inputs.get g).buffer } := by
  rw [discardRevolution_eq]
  exact Tab.get_ofFn ..

theorem discardRevolution_gra (s : State) (ch : Channel) :
    (s.discardRevolution ch).gra =
      { s.gra with inputs := (s.discardRevolution ch).gra.inputs, block := if ch = .tg then none else s.gra.block } := by
  rw [discardRevolution_eq]

/-- What a channel that leaves lock does to the other blocks, before any staged settings (R12, R33, R66, R77). -/
theorem leaveLock_leaves (s : State) (ch : Channel) (target : LockState) : LeavesLock s (s.leaveLock ch target) ch none := by
  let d := s.discardRevolution ch
  let e := d.setTrack ch { d.track ch with lock := target, deadlineFrom := none }
  obtain ⟨acq, sav, now, mode⟩ := lockLost_keeps e ch
  obtain ⟨grid, inputs, shaft, other⟩ := lockLost_moves e ch
  have gone : d = _ := discardRevolution_eq s ch
  have d_rgc : d.rgc = s.rgc := (congrArg State.rgc gone :)
  have d_ind : d.ind = s.ind := (congrArg State.ind gone :)
  refine ⟨(discardRevolution_abandons s ch).congr rfl acq now mode, fun va => ?_, ?_, fun g => ?_,
    fun tl => (shaft tl).congr d_rgc.symm d_ind.symm rfl rfl, fun differs => ?_⟩
  · have cleared : ¬(va ∈ s.vaList ch ∧ ∃ new ∈ (none : Option TrackSettings), (s.track ch).settings.recuts new) := by simp
    dsimp only
    rw [if_neg cleared]
    exact (congrArg (Tab.get · va) sav).trans (discardRevolution_sav_get s ch va)
  · have block := discardRevolution_gra s ch
    have t_inputs : (s.leaveLock ch target).gra.inputs = d.gra.inputs := inputs
    rw [t_inputs]
    refine grid.trans ?_
    rw [show e.gra = d.gra from rfl, block]
    split <;> rfl
  · exact (congrArg (Tab.get · g) inputs).trans (discardRevolution_grid_get s ch g)
  · obtain ⟨rgc, ind⟩ := other differs
    exact ⟨rgc.trans d_rgc, ind.trans d_ind⟩

theorem LeavesLock.settled {s t u : State} {ch : Channel} {staged : Option TrackSettings} (leaves : LeavesLock s t ch none)
    (acq : u.acq = t.acq) (now : u.now = t.now) (mode : u.skd.mode = t.skd.mode) (gra : u.gra = t.gra) (rgc : u.rgc = t.rgc)
    (ind : u.ind = t.ind)
    (sav : ∀ va, u.sav.get va =
      if va ∈ s.vaList ch ∧ ∃ new ∈ staged, (s.track ch).settings.recuts new then (t.sav.get va).emptied u else t.sav.get va) :
    LeavesLock s u ch staged := by
  obtain ⟨abandons, inputs, grid, gridInputs, shaft, other⟩ := leaves
  refine ⟨abandons.congr rfl acq now mode, fun va => ?_, gra ▸ grid, fun g => gra ▸ gridInputs g,
    fun tl => (shaft tl).congr rfl rfl rgc ind, fun differs => ?_⟩
  · have spared : ¬(va ∈ s.vaList ch ∧ ∃ new ∈ (none : Option TrackSettings), (s.track ch).settings.recuts new) := by simp
    rw [sav, inputs, if_neg spared]
    dsimp only
    split <;> rfl
  · rw [rgc, ind]
    exact other differs

/-- What leaving lock is measured against: the other blocks, and the channel's settings. -/
theorem LeavesLock.since {s u t : State} {ch : Channel} {staged : Option TrackSettings} (leaves : LeavesLock u t ch staged)
    (acq : u.acq = s.acq) (sav : u.sav = s.sav) (gra : u.gra = s.gra) (rgc : u.rgc = s.rgc) (ind : u.ind = s.ind)
    (settings : (u.track ch).settings = (s.track ch).settings) : LeavesLock s t ch staged := by
  unfold LeavesLock AbandonsScan EntersRegime State.vaList State.present State.scanList at leaves ⊢
  rw [acq, sav, gra, rgc, ind, settings] at leaves
  exact leaves

theorem LeavesLock.carried {s t u : State} {ch : Channel} (leaves : LeavesLock s t ch none) (acq : u.acq = t.acq) (now : u.now = t.now)
    (mode : u.skd.mode = t.skd.mode) (gra : u.gra = t.gra) (rgc : u.rgc = t.rgc) (ind : u.ind = t.ind) (sav : u.sav = t.sav) :
    LeavesLock s u ch none :=
  leaves.settled acq now mode gra rgc ind fun va => by rw [sav, if_neg (by simp)]

/-- A channel that has left lock takes its staged settings: the clears they ask for, and nothing else, come on top (R20). -/
theorem applyStagedNow_leaves {s t : State} {ch : Channel} {staged : Option TrackSettings} (leaves : LeavesLock s t ch none)
    (held : (t.track ch).staged = staged) (settings : (t.track ch).settings = (s.track ch).settings)
    (table : t.acq.table = s.acq.table) : LeavesLock s (t.applyStagedNow ch) ch staged := by
  unfold State.applyStagedNow
  rw [held]
  cases staged with
  | none => exact leaves
  | some new =>
    have frame := applyNow_onlyTrkSav t ch new
    refine leaves.settled (congrArg State.acq frame :) (congrArg State.now frame :) (congrArg (fun x : State => x.skd.mode) frame :)
      (congrArg State.gra frame :) (congrArg State.rgc frame :) (congrArg State.ind frame :) fun va => ?_
    refine (applyNow_sav_get t ch new va).trans (if_congr ?_ rfl rfl)
    rw [settings, State.vaList, State.scanList, table]
    simp [State.vaList, State.scanList]

theorem applyStagedNow_onlyTrkSav (s : State) (ch : Channel) :
    s.applyStagedNow ch = { s with trk := (s.applyStagedNow ch).trk, sav := (s.applyStagedNow ch).sav } := by
  unfold State.applyStagedNow
  split
  next new _ =>
    rw [applyNow_onlyTrkSav]
  next => rfl

/-- A channel that has left lock and follows no pulses takes what is staged by R19. -/
theorem settledNow_eq {t : Track} (away : t.lock.following = false) :
    t.settledNow = match t.staged with | none => t | some new => t.settled new := by
  cases staged : t.staged with
  | none => exact settledNow_none staged
  | some new => exact (settledNow_some staged).trans (applied_eq_settled away new)

theorem leaveLock_table (s : State) (ch : Channel) (target : LockState) : (s.leaveLock ch target).acq.table = s.acq.table :=
  leaveLock_evolves s ch target .table (by decide)

/-- The same but for what leaving lock and its alert change. -/
def OnlyLeaving (s t : State) : Prop :=
  t = { s with trk := t.trk, sav := t.sav, ind := t.ind, rgc := t.rgc, acq := t.acq, gra := t.gra, alt := t.alt }

theorem OnlyLeaving.trans {s t u : State} (h : OnlyLeaving s t) (k : OnlyLeaving t u) : OnlyLeaving s u := by
  unfold OnlyLeaving at *; rw [k, h]

theorem OnlyUnlocking.leaving {s t : State} (h : OnlyUnlocking s t) : OnlyLeaving s t := by
  unfold OnlyUnlocking at h; unfold OnlyLeaving; rw [h]

theorem applyStagedNow_onlyLeaving (s : State) (ch : Channel) : OnlyLeaving s (s.applyStagedNow ch) := by
  unfold OnlyLeaving
  rw [applyStagedNow_onlyTrkSav]

/-! ### The deadline in HOLDOVER -/

theorem exec_holdoverDeadline {s : State} {ch : Channel} {d prev : Nat} (running : s.phase = .running)
    (holdover : (s.track ch).lock = .holdover) (deadline : (s.track ch).deadlineFrom = some d) (known : (s.track ch).tprev = some prev) :
    exec (.holdoverDeadline ch) s = .next ((s.advance (d + 3 * prev / 2)).stall ch) := by
  have due : (s.track ch).deadlineIn .holdover = some (d + 3 * prev / 2) := by
    simp [Track.deadlineIn, Track.deadline, holdover, deadline, known]
  change execHoldoverDeadline ch s = _
  rw [execHoldoverDeadline, due, atDue_running running]

/-- Settles O43: the channel leaves lock, is stalled, reports it, and takes what is staged. -/
theorem holdoverDeadlineStalls : Obligations.HoldoverDeadlineStalls := by
  intro s ch d prev k stalled running holdover deadline known
  let u := s.advance (d + 3 * prev / 2)
  let a := State.leaveLock u ch .stalled
  let b := (State.setTrack a ch (State.track a ch).stalledNow).raise (trackLostAlert ch)
  have leaves : LeavesLock u a ch none := leaveLock_leaves u ch .stalled
  have a_track : State.track a ch = k.left .stalled := leaveLock_track u ch .stalled
  have b_track : State.track b ch = stalled := (State.track_setTrack_self ..).trans (by rw [a_track]; rfl)
  have a_frame : OnlyUnlocking u a := leaveLock_onlyUnlocking u ch .stalled
  have now : a.now = u.now := (congrArg State.now a_frame :)
  have mode : a.skd.mode = u.skd.mode := (congrArg (fun x : State => x.skd.mode) a_frame :)
  have b_leaves : LeavesLock u b ch none := leaves.carried rfl rfl rfl rfl rfl rfl rfl
  have final := applyStagedNow_leaves (staged := k.staged) b_leaves (by rw [b_track]) (by rw [b_track]; rfl) (leaveLock_table u ch .stalled)
  have trk : (State.applyStagedNow b ch).trk = s.trk.set ch (match k.staged with | none => stalled | some new => stalled.settled new) := by
    rw [applyStagedNow_trk, b_track, settledNow_eq rfl]
    have placed (v : Track) : b.trk.set ch v = s.trk.set ch v :=
      (PerChannel.set_set ..).trans ((congrArg (PerChannel.set · ch v) (leaveLock_trk u ch .stalled)).trans (PerChannel.set_set ..))
    exact placed _
  have frame : OnlyLeaving u (State.applyStagedNow b ch) :=
    a_frame.leaving.trans (OnlyLeaving.trans (t := b) rfl (applyStagedNow_onlyLeaving b ch))
  have kept := applyStagedNow_onlyTrkSav b ch
  have alt : (State.applyStagedNow b ch).alt = b.alt := (congrArg State.alt kept :)
  have rgc : (State.applyStagedNow b ch).rgc = a.rgc := (congrArg State.rgc kept :)
  have row : exec (.holdoverDeadline ch) s = .next (State.applyStagedNow b ch) :=
    exec_holdoverDeadline running holdover deadline known
  generalize State.applyStagedNow b ch = t at row final trk frame alt rgc
  unfold OnlyLeaving at frame
  rw [trk] at frame
  refine ⟨t, row, frame, final, alt.trans ?_⟩
  have alike : StampsAlike (State.setTrack a ch (State.track a ch).stalledNow) { s with rgc := t.rgc } :=
    ⟨(congrArg State.phase a_frame :), congrArg Rgc.regime rgc.symm, (congrArg State.clk a_frame :), mode,
      (congrArg State.alt a_frame :)⟩
  exact (alike.raise (trackLostAlert ch)).alt

/-! ### An interval outside the window -/

theorem takeEdge_outside {s : State} {ch : Channel} {ref edge taking : Tick} (locked : (s.track ch).lock = .locked)
    (known : (s.track ch).ref = some ref) (outside : (s.track ch).settings.inWindow (intervalOf ref edge) = false) :
    s.takeEdge ch edge taking = s.losePace ch edge (intervalOf ref edge) := by
  rw [takeEdge_locked _ _ locked known]
  exact if_neg (by rw [outside]; decide)

theorem gridRangeAlert_eq {t : TrackSettings} (tmin : t.tmin = 30770) (tmax : t.tmax = 44444) (i : Nat) :
    gridRangeAlert t i =
      ⟨.gridRange, .warn, .channel .tg, none, some (min 4294967295 (floorDiv 2000000000 i) : Nat),
        some (if i < 30770 then 64998 else 45000), .absent⟩ := by
  have limit : (t.crossedLimit i : Int) = if i < 30770 then 64998 else 45000 := by
    rw [TrackSettings.crossedLimit, tmin, tmax]
    split <;> rfl
  rw [gridRangeAlert, limit]
  rfl

/-- Settles O42: the channel leaves lock, TG reports its interval, and what is staged is taken. -/
theorem edgeOutsideWindowLosesLock : Obligations.EdgeOutsideWindowLosesLock := by
  intro s ch x ref k i dropped running locked held known outside
  let u := s.confirmed ch x
  let a := State.leaveLock u ch .acquiring
  let lost := State.setTrack a ch ((State.track a ch).paceLost x.seenAt i)
  let b := if ch = .tg then lost.raise (gridRangeAlert k.settings i) else lost
  have u_track : State.track u ch = { k with transition := none } := confirmed_track s ch x
  have row : exec (.countedEdge ch) s = .next (State.applyStagedNow b ch) := by
    rw [exec_countedEdge running held, takeEdge_outside (ref := ref) (by rw [u_track]; exact locked) (by rw [u_track]; exact known) ?_,
      losePace_eq, u_track]
    · rfl
    · rw [u_track]
      refine Bool.eq_false_iff.2 fun within => ?_
      obtain ⟨low, high, counts⟩ := (inWindow_iff ..).1 within
      rcases outside with below | above | saturated
      · exact absurd low (Nat.not_le.2 below)
      · exact absurd high (Nat.not_le.2 above)
      · exact absurd counts (Nat.not_lt.2 (Nat.le_of_eq saturated.symm))
  have a_track : State.track a ch = ({ k with transition := none } : Track).left .acquiring := by
    rw [show State.track a ch = _ from leaveLock_track u ch .acquiring, u_track]
  have a_frame : OnlyUnlocking u a := leaveLock_onlyUnlocking u ch .acquiring
  have b_only : b = { lost with alt := b.alt } := by
    change (if _ then _ else _ : State) = { lost with alt := (if _ then _ else _ : State).alt }
    split <;> rfl
  have lost_track : State.track lost ch = dropped := by
    rw [show State.track lost ch = _ from State.track_setTrack_self .., a_track]
    rfl
  have b_track : State.track b ch = dropped := (congrArg (State.track · ch) b_only).trans lost_track
  have a_leaves : LeavesLock s a ch none :=
    (leaveLock_leaves u ch .acquiring).since rfl rfl rfl rfl rfl (by rw [show State.track u ch = _ from u_track])
  have b_leaves : LeavesLock s b ch none := by
    rw [b_only]
    exact a_leaves.carried rfl rfl rfl rfl rfl rfl rfl
  have table : b.acq.table = s.acq.table := (congrArg (fun x : State => x.acq.table) b_only).trans (leaveLock_table u ch .acquiring)
  have final := applyStagedNow_leaves (staged := k.staged) b_leaves (by rw [b_track]) (by rw [b_track]) table
  have trk : (State.applyStagedNow b ch).trk = s.trk.set ch (match k.staged with | none => dropped | some new => dropped.settled new) := by
    rw [applyStagedNow_trk, b_track, settledNow_eq rfl, congrArg State.trk b_only]
    have placed (v : Track) : lost.trk.set ch v = s.trk.set ch v :=
      (PerChannel.set_set ..).trans ((congrArg (PerChannel.set · ch v) (leaveLock_trk u ch .acquiring)).trans
        ((PerChannel.set_set ..).trans (PerChannel.set_set ..)))
    exact placed _
  have frame : OnlyLeaving u (State.applyStagedNow b ch) :=
    a_frame.leaving.trans (OnlyLeaving.trans (t := b) (by rw [b_only]; rfl) (applyStagedNow_onlyLeaving b ch))
  have alt : (State.applyStagedNow b ch).alt = b.alt := (congrArg State.alt (applyStagedNow_onlyTrkSav b ch) :)
  generalize State.applyStagedNow b ch = t at row final trk frame alt
  unfold OnlyLeaving at frame
  rw [trk] at frame
  refine ⟨t, row, frame, final, fun shaft => ?_, fun grid tmin tmax => ?_⟩
  · rw [alt, show b = lost from if_neg shaft]
    exact (congrArg State.alt a_frame :)
  · obtain ⟨-, -, -, -, -, other⟩ := a_leaves
    have rgc : a.rgc = s.rgc := (other (by rw [grid]; decide)).1
    have alike : StampsAlike lost s :=
      ⟨(congrArg State.phase a_frame :), congrArg Rgc.regime rgc, (congrArg State.clk a_frame :),
        (congrArg (fun x : State => x.skd.mode) a_frame :), (congrArg State.alt a_frame :)⟩
    rw [alt, show b = _ from if_pos grid, (alike.raise _).alt, gridRangeAlert_eq tmin tmax, floorDiv_eq]

end Sys2Proof.Machine
end

section
set_option Elab.async false
/-! Freshness that expires (R71, R81, R110), what becomes of an alert (R152 to R155), and the low periods of the key (R144, R150). -/

namespace Sys2Proof.Machine

theorem whileRunning_running {s : State} (running : s.phase = .running) (tick : Tick) (f : State → State) :
    s.whileRunning tick f = f (s.advance tick) := by
  simp only [State.whileRunning, running]

/-- An event without an instant does not happen. -/
theorem atDue_none (s : State) (f : State → State) : s.atDue none f = s := by
  unfold State.atDue
  split <;> simp_all

/-! ### Freshness -/

/-- Settles O48: by whether the state fixes an instant for the expiry. -/
theorem freshnessExpires : Obligations.FreshnessExpires := by
  intro s running
  have power : exec .powerFreshnessExpiry s = .next (s.atDue (s.gra.power.map fun k => k.since + powerFreshTicks) State.powerUnknown) :=
    rfl
  have ambient : exec .ambientStale s = .next (s.atDue s.icm.staleAt State.expireAmbient) := rfl
  refine ⟨fun k known => ?_, fun unknown => ?_, fun a held fresh => ?_, fun stale => ?_⟩
  · rw [power, known, Option.map_some, atDue_running running]
    rfl
  · rw [power, unknown, Option.map_none, atDue_none]
  · have due : s.icm.staleAt = some (a.receivedAt + 1200000000) := by
      simp [Icm.staleAt, held, fresh, ambientFreshSeconds, ticksPerSecond]
    rw [ambient, due, atDue_running running]
    simp only [State.expireAmbient, State.advance_icm, held]
    rfl
  · have due : s.icm.staleAt = none := by
      unfold Icm.staleAt
      split
      next a held => rw [stale a held]; rfl
      next => rfl
    rw [ambient, due, atDue_none]

/-! ### What becomes of an alert -/

theorem mergedWith_eq (old new : AlertRecord) :
    old.mergedWith new = { new with
      seq := old.seq, kind := old.kind, source := old.source, sub := old.sub, repeats := min 255 (old.repeats + 1)
      snapshot := if new.snapshot = .absent then old.snapshot else new.snapshot } := by
  have snapshot : old.snapshot.mergedWith new.snapshot = if new.snapshot = .absent then old.snapshot else new.snapshot := by
    cases new.snapshot <;> rfl
  rw [AlertRecord.mergedWith, snapshot]
  rfl

/-- A list with one record of the alert's kind, source and sub-source merges it in its place (R154). -/
theorem place_merges {l : Alt} {a r : AlertRecord} {before after : List AlertRecord} (records : l.records = before ++ r :: after)
    (same : r.same a = true) (others : ∀ q ∈ before ++ after, q.same a = false) :
    l.place a = { l with records := before ++ r.mergedWith a :: after } := by
  have held : l.records.any (fun x => x.same a) = true := by simp [records, same]
  have kept (part : List AlertRecord) (among : ∀ q ∈ part, q ∈ before ++ after) :
      part.map (fun x => if x.same a then x.mergedWith a else x) = part :=
    (List.map_congr_left fun q mem => if_neg (by rw [others q (among q mem)]; decide)).trans (List.map_id' part)
  rw [Alt.place, if_pos held, records, List.map_append, List.map_cons, if_pos same,
    kept before fun _ mem => List.mem_append_left _ mem, kept after fun _ mem => List.mem_append_right _ mem]

theorem create_eq {l : Alt} (bounded : l.nextSeq ≤ 4294967295) (a : AlertRecord) :
    l.create a = { l with
      records := l.records ++ [{ a with seq := l.nextSeq }]
      nextSeq := if l.nextSeq = 4294967295 then 0 else l.nextSeq + 1 } := by
  have next : wrap32 (l.nextSeq + 1) = if l.nextSeq = 4294967295 then 0 else l.nextSeq + 1 := by
    unfold wrap32 max32
    split <;> omega
  rw [Alt.create, next]

/-- The oldest record of a severity makes room (R155). -/
theorem evict_eq {l : Alt} {r : AlertRecord} {before after : List AlertRecord} (records : l.records = before ++ r :: after)
    (oldest : ∀ q ∈ before, q.severity ≠ r.severity) :
    l.evict r.severity = { l with records := before ++ after, overflow := true } := by
  have erased : l.records.eraseP (fun x => x.severity = r.severity) = before ++ after := by
    rw [records, List.eraseP_append_right _ (by simpa using oldest), List.eraseP_cons_of_pos (by simp)]
  rw [Alt.evict, erased]

section
variable {l : Alt} {a : AlertRecord} (fresh : ∀ q ∈ l.records, q.same a = false)

theorem any_severity_false {records : List AlertRecord} {v : Severity} (none : ∀ q ∈ records, q.severity ≠ v) :
    records.any (fun x => x.severity = v) = false := by
  simpa using none

include fresh

theorem place_fresh : l.place a =
    if l.records.length < 32 then l.create a
    else if l.records.any (fun x => x.severity = .note) then (l.evict .note).create a
    else if a.severity = .alarm ∧ l.records.any (fun x => x.severity = .warn) then (l.evict .warn).create a
    else { l with overflow := true } := by
  rw [Alt.place, if_neg (by simpa using fresh)]

/-- At 32 the oldest NOTE makes room, or for an ALARM the oldest WARN (R155). -/
theorem place_evicts {r : AlertRecord} {before after : List AlertRecord} (full : l.records.length = 32)
    (records : l.records = before ++ r :: after)
    (chosen : r.severity = .note ∧ (∀ q ∈ before, q.severity ≠ .note)
      ∨ a.severity = .alarm ∧ r.severity = .warn ∧ (∀ q ∈ before ++ after, q.severity ≠ .note)
        ∧ (∀ q ∈ before, q.severity ≠ .warn)) :
    l.place a = ({ l with records := before ++ after, overflow := true } : Alt).create a := by
  rw [place_fresh fresh, if_neg (by omega)]
  rcases chosen with ⟨note, oldest⟩ | ⟨alarm, warn, noNote, oldest⟩
  · rw [if_pos (by simp [records, note]), ← note, evict_eq records (note ▸ oldest)]
  · have quiet : l.records.any (fun x => x.severity = .note) = false := any_severity_false fun q mem => by
      rw [records] at mem
      rcases List.mem_append.1 mem with early | late
      · exact noNote q (List.mem_append_left _ early)
      · rcases List.mem_cons.1 late with rfl | late
        · rw [warn]; decide
        · exact noNote q (List.mem_append_right _ late)
    rw [if_neg (by rw [quiet]; decide), if_pos ⟨alarm, by simp [records, warn]⟩, ← warn, evict_eq records (warn ▸ oldest)]

theorem place_drops (full : l.records.length = 32)
    (firm : ∀ q ∈ l.records, q.severity = .alarm ∨ a.severity ≠ .alarm ∧ q.severity = .warn) :
    l.place a = { l with overflow := true } := by
  have quiet : l.records.any (fun x => x.severity = .note) = false := any_severity_false fun q mem note => by
    rcases firm q mem with alarm | ⟨-, warn⟩ <;> simp_all
  rw [place_fresh fresh, if_neg (by omega), if_neg (by rw [quiet]; decide), if_neg]
  rintro ⟨alarm, warns⟩
  obtain ⟨q, mem, warn⟩ := List.any_eq_true.1 warns
  rcases firm q mem with stands | ⟨less, -⟩
  · rw [of_decide_eq_true warn] at stands; cases stands
  · exact less alarm

end

/-- Settles O51: an alert merges, joins, evicts or is dropped, by the cases of R153 to R155. -/
theorem alertsMergeJoinEvictOrDrop : Obligations.AlertsMergeJoinEvictOrDrop := by
  refine ⟨fun s a => rfl, fun l a room bounded once => ?_⟩
  have stamped (seq : Nat) : ({ a with seq := seq } : AlertRecord) = { a with seq := seq, repeats := 1 } := by rw [← once]
  refine ⟨fun before r after records same others => ?_, fun fresh => ⟨fun space => ?_, fun full => ⟨?_, fun firm => ?_⟩⟩⟩
  · rw [place_merges records same others, mergedWith_eq]
  · rw [place_fresh fresh, if_pos space, create_eq bounded, stamped]
  · intro before r after records chosen
    rw [place_evicts fresh full records chosen, create_eq (l := { l with records := before ++ after, overflow := true }) bounded,
      stamped]
  · exact place_drops fresh full firm

/-! ### The low periods of the key -/

theorem key_running {s : State} (running : s.phase = .running) (tick : Tick) (low : Bool) (judge : Skd → Tick → Skd) :
    s.key tick low judge = { s.advance tick with skd := judge s.skd (max s.now tick) } := by
  simp only [State.key, running]
  rfl

/-- Settles O56: a fall begins a low period, and a rise judges one that began. -/
theorem keyLowPeriodsAreJudged : Obligations.KeyLowPeriodsAreJudged := by
  intro s tick
  have fall : exec (.keyFall tick) s = .next (s.key tick true Skd.fallen) := rfl
  have rise : exec (.keyRise tick) s = .next (s.key tick false Skd.risen) := rfl
  refine ⟨fun running => ?_, fun x mem => ?_⟩
  · rw [fall, rise, key_running running, key_running running]
    refine ⟨fun high => ?_, fun low => ?_, fun high => ?_, fun low unknown => ?_, fun f low fell => ⟨?_, ?_⟩⟩
    · simp only [Skd.fallen, high]; rfl
    · simp only [Skd.fallen, low]; rfl
    · simp only [Skd.risen, high]; rfl
    · simp only [Skd.risen, low, unknown]; rfl
    · have judged : trainAfterLow s.skd.train (max s.now tick - f) =
          if max s.now tick - f < 80000 then s.skd.train
          else if max s.now tick - f ≤ 2400000 then some (match s.skd.train with | none => 1 | some n => min 255 (n + 1))
          else none := by
        cases s.skd.train <;> rfl
      simp only [Skd.risen, low, fell, judged]; rfl
    · have due : s.skd.longLowAt = some (f + 2400001) := by simp only [Skd.longLowAt, low, fell]; rfl
      have row : exec .keyLongLow s = .next (s.atDue s.skd.longLowAt fun t => { t with skd := t.skd.aborted }) := rfl
      rw [row, due, atDue_running running]
      rfl
  · rcases List.mem_cons.1 mem with rfl | mem
    · exact ⟨fun startup => by rw [fall, State.key, startup]; rfl, fun off => by rw [fall, State.key, off]; rfl⟩
    · obtain rfl := List.mem_singleton.1 mem
      exact ⟨fun startup => by rw [rise, State.key, startup]; rfl, fun off => by rw [rise, State.key, off]; rfl⟩

end Sys2Proof.Machine
end

section
set_option Elab.async false
/-! The end of a reply (R169, R175) and of a store write (R178, R179). -/

namespace Sys2Proof.Machine

/-! ### The end of a reply -/

theorem kicked_free {l : Lnk} (free : l.sending = none) :
    l.kicked = { l with sending := l.order.head?.bind fun q => q.reply.map Reply.bytes } := by
  obtain ⟨receiver, lineLow, serving, waiting, order, sending, reset⟩ := l
  obtain rfl : sending = none := free
  cases order with
  | nil => rfl
  | cons p rest =>
    obtain ⟨_ | r, resets⟩ := p
    · rfl
    · rfl

/-- Settles O59: the head leaves the order, and the kick sends the next. -/
theorem replySentFreesItsPlace : Obligations.ReplySentFreesItsPlace := by
  intro s tick bytes p rest running sending order
  have row : exec (.replySent tick) s = .next (s.whileRunning tick State.replySent) := rfl
  rw [row, whileRunning_running running]
  unfold State.replySent State.kick
  rw [State.advance_lnk, sending, order]
  dsimp only
  rw [kicked_free rfl]

/-! ### The end of a store write -/

/-- The part at the end of its write in flight, before the SAVE it serves hears of it (R178). -/
def State.written (s : State) (w : StoreWrite) (success : Bool) : State :=
  { s with
    sst := s.sst.completed w success s.contents s.now
    alt := if success then s.alt else (s.raise storeFaultAlert).alt }

theorem exec_storeWriteComplete {s : State} {w : StoreWrite} (running : s.phase = .running) (inFlight : s.sst.inFlight = some w)
    (success : Bool) (tick : Tick) :
    exec (.storeWriteComplete success tick) s = .next (((s.advance tick).written w success).reportWrite success) := by
  have row : exec (.storeWriteComplete success tick) s = .next (s.whileRunning tick (State.completeInFlight success)) := rfl
  rw [row, whileRunning_running running, State.completeInFlight, State.advance_sst, inFlight]
  cases success <;> rfl

theorem reportWrite_answers {s : State} (serving : s.lnk.serving = some .inFlight) (success : Bool) :
    s.reportWrite success = s.answerSave success := by
  rw [State.reportWrite, serving]

/-- The SAVE served takes its reply, the first pending place (R179). -/
theorem answerSave_eq {s : State} {before after : List Place} (order : s.lnk.order = before ++ (⟨none, false⟩ : Place) :: after)
    (ready : ∀ p ∈ before, p.reply.isSome = true) (success : Bool) :
    s.answerSave success =
      (State.serveWaiting { s with
        lnk := { s.lnk with
          serving := none
          order := before ++ (⟨some ⟨0xC8, if success then .ok else .storeFault, []⟩, false⟩ : Place) :: after } }).kick := by
  have filled := fillFirst_append (replyTo (requestType .save) (.bare (if success then .ok else .storeFault))) false before
    ⟨none, false⟩ after ready rfl
  rw [State.answerSave, State.makeReady, order, filled]
  rfl

theorem serveWaiting_nothing {s : State} (nothing : s.lnk.waiting = none) : s.serveWaiting = s := by
  rw [State.serveWaiting, nothing]

theorem serveWaiting_moves {s : State} {r : Request} (waits : s.lnk.waiting = some r) :
    s.serveWaiting = State.serve { s with lnk := { s.lnk with waiting := none } } r := by
  rw [State.serveWaiting, waits]

/-- A request that moves up is served at the next pending place (R169). -/
theorem serve_moved {s : State} {ready after : List Place} (order : s.lnk.order = ready ++ (⟨none, false⟩ : Place) :: after)
    (isReady : ∀ p ∈ ready, p.reply.isSome = true) (r : Request) :
    s.serve r =
      match r with
      | .save =>
        { s with
          sst :=
            if s.sst.inFlight.isSome then { s.sst with pendingWrite := true }
            else { s.sst with inFlight := some ⟨s.contents, s.now⟩ }
          lnk := { s.lnk with serving := some (if s.sst.inFlight.isSome then .pending else .inFlight) } }
      | .reset =>
        { s with lnk := { s.lnk with order := ready ++ (⟨some ⟨0xC9, .ok, []⟩, true⟩ : Place) :: after, reset := .served } }
      | r =>
        { (s.answer r).1 with
          lnk := { s.lnk with
            order := ready ++
              (⟨some ⟨requestType r + 0x80, (s.answer r).2.status, (s.answer r).2.fields⟩, false⟩ : Place) :: after } } := by
  have filled (reply : Reply) (resets : Bool) :
      fillFirst reply resets s.lnk.order = ready ++ (⟨some reply, resets⟩ : Place) :: after := by
    rw [order, fillFirst_append reply resets ready ⟨none, false⟩ after isReady rfl]
  have answered (q : Request) : (s.answer q).1.makeReady (replyTo (requestType q) (s.answer q).2) false =
      { (s.answer q).1 with
        lnk := { s.lnk with
          order := ready ++
            (⟨some ⟨requestType q + 0x80, (s.answer q).2.status, (s.answer q).2.fields⟩, false⟩ : Place) :: after } } := by
    rw [State.makeReady, answer_lnk, filled]
    rfl
  cases r with
  | save =>
    cases inFlight : s.sst.inFlight with
    | none => simp [State.serve, State.serveSave, State.requestWrite, Sst.requested, inFlight]
    | some w => simp [State.serve, State.serveSave, State.requestWrite, Sst.requested, inFlight]
  | reset =>
    change State.serveReset s = _
    rw [State.serveReset, State.makeReady, filled]
    rfl
  | _ => exact answered _

/-- Settles O60: by what the SAVE served waits for, and by what waits behind it. -/
theorem storeWriteCompletes : Obligations.StoreWriteCompletes := by
  intro s tick w success running inFlight sst alt saved
  let u := State.written (s.advance tick) w success
  have row : exec (.storeWriteComplete success tick) s = .next (u.reportWrite success) :=
    exec_storeWriteComplete running inFlight success tick
  have u_eq : u = { s.advance tick with sst := sst, alt := alt } := rfl
  refine ⟨fun idle => ?_, fun pending => ?_, fun before after serving nothing order ready => ?_,
    fun before mid after r serving waits order ready => ?_⟩
  · rw [row, State.reportWrite, show u.lnk.serving = none from idle, u_eq]
  · rw [row, State.reportWrite, show u.lnk.serving = some .pending from pending, u_eq]
    rfl
  · rw [row, reportWrite_answers (s := u) serving, answerSave_eq (s := u) order ready]
    exact congrArg (fun t : State => (.next t.kick : Host.Outcome State Fault Refusal)) (serveWaiting_nothing (by exact nothing))
  · have early (p : Place) (mem : p ∈ before) : p.reply.isSome = true := ready p (List.mem_append_left _ mem)
    have order' : u.lnk.order = before ++ (⟨none, false⟩ : Place) :: (mid ++ (⟨none, false⟩ : Place) :: after) := by
      change s.lnk.order = _
      rw [order, List.append_assoc]
      rfl
    have settled (p : Place) (mem : p ∈ before ++ saved :: mid) : p.reply.isSome = true := by
      rcases List.mem_append.1 mem with inBefore | later
      · exact early p inBefore
      · rcases List.mem_cons.1 later with rfl | inMid
        · rfl
        · exact ready p (List.mem_append_right _ inMid)
    have moved := serve_moved
      (s := { u with
        lnk := { u.lnk with
          serving := none, waiting := none
          order := before ++ saved :: mid ++ (⟨none, false⟩ : Place) :: after } })
      (ready := before ++ saved :: mid) (after := after) rfl settled r
    have regroup (p q : Place) : before ++ p :: (mid ++ q :: after) = before ++ p :: mid ++ q :: after := by simp
    dsimp only
    rw [row, reportWrite_answers (s := u) serving, answerSave_eq (s := u) order' early, regroup]
    exact congrArg (fun t : State => (.next t.kick : Host.Outcome State Fault Refusal))
      ((serveWaiting_moves (by exact waits)).trans moved)

end Sys2Proof.Machine
end

section
set_option Elab.async false
/-! The frame receiver (R165, R167) and the checks of a complete frame (R168). -/

namespace Sys2Proof.Machine

/-! ### The type table (R168) -/

/-- The type bytes of the request table. -/
def requestTypes : List Nat :=
  [0x01, 0x02, 0x03, 0x10, 0x11, 0x12, 0x18, 0x19, 0x1A, 0x1B, 0x20, 0x21, 0x28, 0x29, 0x2A, 0x30, 0x31, 0x32, 0x33, 0x34, 0x38,
    0x39, 0x3A, 0x40, 0x41, 0x42, 0x48, 0x49]

theorem requestOf_isSome (type : Nat) (payload : List Byte) : (requestOf type payload).isSome = true ↔ type ∈ requestTypes := by
  unfold requestOf
  split <;> simp_all [requestTypes]

theorem allowedLength_isSome (type : Nat) (payload : List Byte) :
    (allowedLength type payload).isSome = true ↔ type ∈ requestTypes := by
  unfold allowedLength
  split <;> simp_all [requestTypes]

/-! ### The checks of a frame -/

theorem judgeFrame_drops {s : State} (full : 16 ≤ s.lnk.order.length ∨ s.lnk.reset ≠ .none) (body sum : List Byte) :
    s.judgeFrame body sum = s := by
  refine if_pos ?_
  rcases full with full | reset
  · simp [Lnk.drops, orderCapacity, full]
  · simp [Lnk.drops, reset]

section
variable {s : State} (room : s.lnk.order.length < 16) (open' : s.lnk.reset = .none) {body sum : List Byte}
include room open'

theorem drops_false : s.lnk.drops = false := by
  simp [Lnk.drops, open', orderCapacity, room]

theorem judgeFrame_badFrame (wrong : crcBytes body ≠ sum) : s.judgeFrame body sum = s.replied 0xFF .badFrame [] := by
  rw [State.judgeFrame]
  rw [if_neg (by rw [drops_false room open']; decide), if_pos wrong]
  rfl

variable (right : crcBytes body = sum)
include right

theorem judgeFrame_right : s.judgeFrame body sum =
    match allowedLength (natAt body 1 1) (body.drop 2), requestOf (natAt body 1 1) (body.drop 2) with
    | some length, some r =>
      if (body.drop 2).length = length then s.submit r else s.replied (natAt body 1 1 + 0x80) .badLength []
    | _, _ => s.replied 0xFF .badType [] := by
  rw [State.judgeFrame]
  rw [if_neg (by rw [drops_false room open']; decide), if_neg (by rw [right]; exact fun differs => differs rfl)]
  rfl

theorem judgeFrame_badType (unknown : natAt body 1 1 ∉ requestTypes) : s.judgeFrame body sum = s.replied 0xFF .badType [] := by
  have none : allowedLength (natAt body 1 1) (body.drop 2) = none := by
    rw [← Option.not_isSome_iff_eq_none, allowedLength_isSome]
    exact unknown
  rw [judgeFrame_right room open' right, none]

variable (known : natAt body 1 1 ∈ requestTypes)
include known

theorem judgeFrame_badLength (wrong : allowedLength (natAt body 1 1) (body.drop 2) ≠ some (body.drop 2).length) :
    s.judgeFrame body sum = s.replied (natAt body 1 1 + 0x80) .badLength [] := by
  obtain ⟨n, allowed⟩ := Option.isSome_iff_exists.1 ((allowedLength_isSome _ (body.drop 2)).2 known)
  obtain ⟨r, spelled⟩ := Option.isSome_iff_exists.1 ((requestOf_isSome _ (body.drop 2)).2 known)
  rw [judgeFrame_right room open' right, allowed, spelled]
  exact if_neg fun same => wrong (by rw [allowed, same])

theorem judgeFrame_submits (fits : allowedLength (natAt body 1 1) (body.drop 2) = some (body.drop 2).length) :
    ∃ r, requestOf (natAt body 1 1) (body.drop 2) = some r ∧ s.judgeFrame body sum = s.submit r := by
  obtain ⟨r, spelled⟩ := Option.isSome_iff_exists.1 ((requestOf_isSome _ (body.drop 2)).2 known)
  refine ⟨r, spelled, ?_⟩
  rw [judgeFrame_right room open' right, fits, spelled]
  exact if_pos rfl

end

/-! ### The receiver -/

theorem exec_serialByte {s : State} (running : s.phase = .running) (a : Arrival) (tick : Tick) :
    exec (.serialByte a tick) s = .next ((s.advance tick).receive a) := by
  change execSerialByte a tick s = _
  simp only [execSerialByte, running]

theorem receive_free {s : State} (free : s.lnk.lineLow = false) (b : Byte) : s.receive (.byte b) = s.takeByte b := by
  rw [State.receive, if_neg (by rw [free]; decide)]

theorem takeByte_hunting {s : State} (hunting : s.lnk.receiver = .hunting) (b : Byte) :
    s.takeByte b = s.setReceiver (if b = 0xC3 then .receiving [] s.now else .hunting) := by
  rw [State.takeByte, hunting]
  dsimp only
  split
  next start => rw [if_pos (by exact start)]
  next other =>
    rw [if_neg (by exact other)]
    rw [State.setReceiver, ← hunting]

theorem takeByte_length {s : State} {last : Tick} (receiving : s.lnk.receiver = .receiving [] last) (b : Byte) :
    s.takeByte b = s.setReceiver (if b.toNat ≤ 250 then .receiving [b] s.now else .hunting) := by
  rw [State.takeByte, receiving]
  exact (apply_ite s.setReceiver ..).symm

section
variable {s : State} {l : Byte} {rest : List Byte} {last : Tick} (receiving : s.lnk.receiver = .receiving (l :: rest) last)
include receiving

theorem takeByte_gathers (short : rest.length + 2 < l.toNat + 4) (b : Byte) :
    s.takeByte b = s.setReceiver (.receiving (l :: rest ++ [b]) s.now) := by
  rw [State.takeByte, receiving]
  exact if_neg (by simp; omega)

theorem takeByte_completes (full : rest.length + 2 = l.toNat + 4) (b : Byte) :
    s.takeByte b =
      (s.setReceiver .hunting).judgeFrame ((l :: rest ++ [b]).take (l.toNat + 2)) ((l :: rest ++ [b]).drop (l.toNat + 2)) := by
  rw [State.takeByte, receiving]
  exact if_pos (by simp; omega)

end

/-- Settles O58: by the phase, the break, the receiver's state, and for a complete frame by the first check it fails. -/
theorem receiverActsOnEachArrival : Obligations.ReceiverActsOnEachArrival := by
  intro s tick
  have byteRow (a : Arrival) : exec (.serialByte a tick) s = execSerialByte a tick s := rfl
  have highRow : exec (.lineReturnedHigh tick) s = execLineReturnedHigh tick s := rfl
  refine ⟨fun startup => ?_, fun off => ?_, fun running => ?_⟩
  · simp only [byteRow, highRow, execSerialByte, execLineReturnedHigh, startup]
    exact ⟨fun _ => rfl, fun _ => rfl, trivial⟩
  · simp only [byteRow, highRow, execSerialByte, execLineReturnedHigh, off]
    exact ⟨fun _ => trivial, trivial⟩
  · intro now receives
    have taken (free : s.lnk.lineLow = false) (b : Byte) :
        exec (.serialByte (.byte b) tick) s = .next ((s.advance tick).takeByte b) :=
      (exec_serialByte running _ _).trans (congrArg _ (receive_free (s := s.advance tick) free b))
    have receives_of (free : s.lnk.lineLow = false) {b : Byte} {r : Receiver}
        (takes : (s.advance tick).takeByte b = (s.advance tick).setReceiver r) : receives (.byte b) r false := by
      change exec (.serialByte (.byte b) tick) s = _
      rw [taken free, takes, ← free]
      rfl
    refine ⟨fun free => ⟨fun b hunting => ?_, fun b last receiving => ?_, fun b l rest last receiving short => ?_,
      fun b l rest last receiving full => ?_, fun low => ?_⟩, fun held a => ?_, fun gathered last receiving => ?_, ?_⟩
    · exact receives_of free (takeByte_hunting (s := s.advance tick) hunting b)
    · exact receives_of free (takeByte_length (s := s.advance tick) receiving b)
    · exact receives_of free (takeByte_gathers (s := s.advance tick) receiving short b)
    · intro frame body type payload u known
      have row : exec (.serialByte (.byte b) tick) s = .next (u.judgeFrame body (frame.drop (l.toNat + 2))) :=
        (taken free b).trans (congrArg _ (takeByte_completes (s := s.advance tick) receiving full b))
      rw [row]
      refine ⟨fun full => congrArg _ (judgeFrame_drops (s := u) full _ _), fun room free => ⟨fun wrong => ?_, fun right => ⟨fun unknown => ?_,
        fun isKnown wrong => ?_, fun isKnown fits => ?_⟩⟩⟩
      · exact congrArg _ (judgeFrame_badFrame (s := u) room free wrong)
      · exact congrArg _ (judgeFrame_badType (s := u) room free right unknown)
      · exact congrArg _ (judgeFrame_badLength (s := u) room free right isKnown wrong)
      · obtain ⟨r, spelled, submits⟩ := judgeFrame_submits (s := u) room free right isKnown fits
        exact ⟨r, spelled, congrArg _ submits⟩
    · change exec (.serialByte (.fault low) tick) s = _
      rw [exec_serialByte running]
      exact congrArg _ (if_neg (by rw [State.advance_lnk, free]; decide))
    · rw [exec_serialByte running]
      exact congrArg _ (if_pos held)
    · have row : exec .frameTimeout s = .next (s.atDue s.lnk.receiver.timeoutAt fun t => t.setReceiver .hunting) := rfl
      rw [row, receiving]
      exact congrArg _ (atDue_running running ..)
    · simp only [highRow, execLineReturnedHigh, running]

end Sys2Proof.Machine
end

section
set_option Elab.async false
/-! The device second (R173, R136, R137, R178) and the expiry of the icing timers (R121, R124, R125). -/

namespace Sys2Proof.Machine

/-! ### The device second -/

/-- An advance of device seconds for the items: OPERATING items accrue, then CALENDAR items recount (R136, R137). -/
theorem secondForItems_eq (s : State) :
    s.secondForItems =
      (if 1 ≤ s.rgc.regime.val then s.itemsCounted (addedTo (fun it => it.basis = .operating) 1) else s).itemsCounted
        (calendarCount s.clk.farm) := by
  rw [State.secondForItems, recountCalendars_eq_itemsCounted, accrue_eq_itemsCounted s (onBasis_iff .operating) (by decide)]
  have farm : (if 1 ≤ s.rgc.regime.val then s.itemsCounted (addedTo (fun it => it.basis = .operating) 1) else s).clk = s.clk := by
    split <;> rfl
  exact congrArg (fun c : Clock => State.itemsCounted _ (calendarCount c.farm)) farm

theorem countAutosave_onlySst (s : State) : s.countAutosave = { s with sst := s.countAutosave.sst } := by
  unfold State.countAutosave
  split <;> rfl

theorem countAutosave_counts {s : State} (early : s.sst.autosave + 1 < 3600) :
    s.countAutosave.sst = { s.sst with autosave := s.sst.autosave + 1 } := by
  rw [State.countAutosave, if_pos (by exact early)]

/-- Every 3,600th device second requests a write (R178). -/
theorem countAutosave_requests {s : State} (due : 3600 ≤ s.sst.autosave + 1) :
    s.countAutosave.sst = ({ s.sst with autosave := 0 } : Sst).requested s.countAutosave.contents s.now := by
  rw [State.countAutosave, if_neg (by exact Nat.not_lt.2 due)]
  rfl

theorem operating_counted (it : Item) :
    (it.counted (addedTo (fun it => it.basis = .operating) 1)).accrued =
      if it.basis = .operating then min 4294967295 (it.accrued + 1) else it.accrued := by
  by_cases operating : it.basis = .operating <;> simp [Item.counted, addedTo, operating]

theorem counted_basis (count : Item → Option Nat) (it : Item) : (it.counted count).basis = it.basis := by
  unfold Item.counted; split <;> rfl

theorem counted_calendarStart (count : Item → Option Nat) (it : Item) : (it.counted count).calendarStart = it.calendarStart := by
  unfold Item.counted; split <;> rfl

/-- What a recount makes of a count (R137). -/
theorem recounted_accrued (farm : Option Nat) (it : Item) :
    (it.counted (calendarCount farm)).accrued =
      if it.basis = .calendar then
        match farm, it.calendarStart with
        | some farm, some start => farm - start
        | _, _ => it.accrued
      else it.accrued := by
  by_cases calendar : it.basis = .calendar
  · cases farm <;> cases start : it.calendarStart <;> simp [Item.counted, calendarCount, calendar, start]
  · have none : calendarCount farm it = none := by unfold calendarCount; split <;> simp_all
    simp [Item.counted, none, calendar]

/-- What a device second leaves of a slot's count: OPERATING items first, then CALENDAR items, and no item is both. -/
theorem second_accrued (it : Item) (farm : Option Nat) (above : Bool) :
    ((if above then it.counted (addedTo (fun it => it.basis = .operating) 1) else it).counted (calendarCount farm)).accrued =
      if it.basis = .operating ∧ above = true then min 4294967295 (it.accrued + 1)
      else if it.basis = .calendar then
        match farm, it.calendarStart with
        | some farm, some start => farm - start
        | _, _ => it.accrued
      else it.accrued := by
  cases above with
  | false => simp [recounted_accrued]
  | true =>
    simp only [if_true, recounted_accrued, counted_basis, counted_calendarStart, operating_counted, and_true]
    by_cases operating : it.basis = .operating <;> simp [operating]

theorem exec_deviceSecond (s : State) : exec .deviceSecond s = .next s.tickSecond := rfl

/-- Settles O52: by the phase; in a running part the walks over the items come first, and then the autosave. -/
theorem deviceSecondAdvances : Obligations.DeviceSecondAdvances := by
  intro s clk ticked operated counted
  have row := exec_deviceSecond s
  have advanced : s.clk.advanced = clk := rfl
  refine ⟨fun running => ?_, fun startup => ?_, fun off => ?_⟩
  · have items : State.secondForItems (ticked.advance s.clk.nextSecond) = counted.advance s.clk.nextSecond := by
      rw [secondForItems_eq, ← itemsCounted_advance]
      refine congrArg (State.itemsCounted · _) ?_
      change (if 1 ≤ s.rgc.regime.val then State.itemsCounted (ticked.advance _) _ else ticked.advance _)
        = State.advance (if 1 ≤ s.rgc.regime.val then _ else _) _
      rw [itemsCounted_advance]
      split <;> rfl
    have next : exec .deviceSecond s = .next (counted.advance s.clk.nextSecond).countAutosave := by
      rw [row, ← items, State.tickSecond, running]
      rfl
    have frame := countAutosave_onlySst (counted.advance s.clk.nextSecond)
    have counted_sst : counted.sst = s.sst := by
      change State.sst (if 1 ≤ s.rgc.regime.val then _ else _) = _
      split <;> rfl
    have counted_now : counted.now = s.now := by
      change State.now (if 1 ≤ s.rgc.regime.val then _ else _) = _
      split <;> rfl
    have early := countAutosave_counts (s := counted.advance s.clk.nextSecond)
    have due := countAutosave_requests (s := counted.advance s.clk.nextSecond)
    simp only [State.advance_sst, State.advance_now, counted_sst, counted_now] at early due
    have item (slot : Fin 16) : (counted.msc.get slot) =
        ((if decide (1 ≤ s.rgc.regime.val) then (s.msc.get slot).counted (addedTo (fun it => it.basis = .operating) 1)
          else s.msc.get slot).counted (calendarCount clk.farm)) := by
      rw [itemsCounted_item]
      refine congrArg (Item.counted _) ?_
      change (State.msc (if 1 ≤ s.rgc.regime.val then _ else _)).get slot = _
      by_cases above : 1 ≤ s.rgc.regime.val
      · rw [if_pos above, if_pos (decide_eq_true above)]
        exact itemsCounted_item ..
      · rw [if_neg above, if_neg (by simpa using above)]
    refine ⟨_, next, ?_, fun slot => ?_, fun soon => ?_, fun last idle => ?_, fun last busy => ?_⟩
    · refine frame.trans ?_
      rw [State.advance, counted_now]
    · refine (congrArg (fun u : State => (u.msc.get slot).accrued) frame).trans ?_
      refine (congrArg Item.accrued (item slot)).trans ((second_accrued ..).trans (if_congr ?_ rfl rfl))
      rw [decide_eq_true_eq]
    · exact early soon
    · rw [due last]
      exact requested_idle _ _ _ idle
    · rw [due last]
      exact requested_running _ _ _ busy
  · have ticks : s.tickSecond = { s.advance s.clk.nextSecond with clk := clk } := by
      simp only [State.tickSecond, startup]
      rfl
    exact row.trans (congrArg _ ticks)
  · rw [row, State.tickSecond, off]

/-! ### A new icing event -/

theorem StampsAlike.itemsCounted {s t : State} (alike : StampsAlike s t) (items : s.msc = t.msc) (count : Item → Option Nat) :
    (s.itemsCounted count).msc = (t.itemsCounted count).msc ∧ (s.itemsCounted count).alt = (t.itemsCounted count).alt := by
  unfold State.itemsCounted
  rw [items]
  exact ⟨rfl, (alike.raiseAll _).alt⟩

theorem knownTemperature_congr {m n : Icm} (ambient : m.ambient = n.ambient) : m.knownTemperature = n.knownTemperature := by
  unfold Icm.knownTemperature; rw [ambient]

/-- What a request for a TSA snapshot of a record leaves of the stack when one is wanted (R161). -/
theorem takeSnapshot_sns (s : State) (b : SnapBody) :
    (s.takeSnapshot b).sns =
      if s.sns.stack.length < 6 ∧ s.sns.nextNumber ≤ 4294967295 then ⟨s.sns.stack ++ [s.stampSnapshot b], s.sns.nextNumber + 1⟩
      else s.sns := by
  refine (ite_congr ?_ (fun _ => rfl) fun _ => rfl)
  exact propext decide_eq_true_iff

theorem offer_eq (t : Sns) :
    t.offer = if t.stack.length < 6 ∧ t.nextNumber ≤ 4294967295 then .number t.nextNumber else .noSnapshot := by
  refine (ite_congr ?_ (fun _ => rfl) fun _ => rfl)
  exact propext decide_eq_true_iff

theorem requestWrite_sst (s : State) :
    s.requestWrite.sst =
      if s.sst.inFlight.isSome then { s.sst with pendingWrite := true }
      else { s.sst with inFlight := some ⟨s.requestWrite.contents, s.now⟩ } := by
  change s.sst.requested s.contents s.now = _
  cases inFlight : s.sst.inFlight with
  | none => rw [requested_idle _ _ _ inFlight]; rfl
  | some w => rw [requested_running _ _ _ (by rw [inFlight]; rfl)]; rfl

/-- The snapshot a new icing event asks for, when ICE_INPUT's record is not empty (R124). -/
def State.eventSnapped (s : State) : State :=
  if (s.sav.get s.icm.settings.iceInput).n > 0 then s.takeSnapshot (s.recordSnapshot s.icm.settings.iceInput) else s

theorem eventSnapped_onlySns (s : State) : s.eventSnapped = { s with sns := s.eventSnapped.sns } := by
  unfold State.eventSnapped
  split <;> rfl

/-- The alarm of a new icing event (R124, R128). -/
def State.eventAlarm (s : State) : Alert :=
  let record := s.sav.get s.icm.settings.iceInput
  ⟨.iceState, .alarm, .none, none, s.icm.knownTemperature, some s.icm.settings.tice,
    if record.n = 0 then .absent
    else if s.sns.stack.length < 6 ∧ s.sns.nextNumber ≤ 4294967295 then .number s.sns.nextNumber else .noSnapshot⟩

theorem icedEvent_eq (s : State) :
    s.icedEvent =
      ((State.eventSnapped (s.enterUntimed .iced)).raise s.eventAlarm).itemsCounted (addedTo (fun it => it.basis = .ice) 1) := by
  rw [← accrue_eq_itemsCounted _ (onBasis_iff .ice) (by decide)]
  have snap : (if (s.sav.get s.icm.settings.iceInput).n > 0 then s.sns.offer else .absent) = s.eventAlarm.snapshot := by
    rw [offer_eq]
    unfold State.eventAlarm
    by_cases empty : (s.sav.get s.icm.settings.iceInput).n = 0
    · simp [empty]
    · simp [empty, Nat.pos_of_ne_zero empty]
  have icm : (State.eventSnapped (s.enterUntimed .iced)).icm = (s.enterUntimed .iced).icm :=
    (congrArg State.icm (eventSnapped_onlySns (s.enterUntimed .iced)) :)
  have alarm : iceStateAlert .alarm (State.eventSnapped (s.enterUntimed .iced)).icm.knownTemperature
      (some (State.eventSnapped (s.enterUntimed .iced)).icm.settings.tice)
      (if (s.sav.get s.icm.settings.iceInput).n > 0 then s.sns.offer else .absent) = s.eventAlarm := by
    rw [snap, icm]
    rfl
  exact congrArg (fun a => ((State.eventSnapped (s.enterUntimed .iced)).raise a).accrue (onBasis .ice) 1) alarm

theorem eventSnapped_sns (s : State) :
    s.eventSnapped.sns =
      if 0 < (s.sav.get s.icm.settings.iceInput).n ∧ s.sns.stack.length < 6 ∧ s.sns.nextNumber ≤ 4294967295 then
        ⟨s.sns.stack ++ [s.stampSnapshot (s.recordSnapshot s.icm.settings.iceInput)], s.sns.nextNumber + 1⟩
      else s.sns := by
  unfold State.eventSnapped
  by_cases wanted : (s.sav.get s.icm.settings.iceInput).n > 0
  · rw [if_pos wanted, takeSnapshot_sns]
    exact if_congr (Iff.symm (and_iff_right wanted)) rfl rfl
  · rw [if_neg wanted, if_neg fun both => wanted both.1]

/-- The state at an instant with this icing monitor: what an evaluation and an expiry have changed when ICED is entered. -/
def State.withIcing (s : State) (now : Tick) (m : Icm) : State := { s with now := now, icm := m }

/-- ICED is entered from SUSPECT: the state, and what the event does beside it (R124, R128). -/
theorem enterIcedEvent_happens (s : State) (now : Tick) {m : Icm} (settings : m.settings = s.icm.settings)
    (ambient : m.ambient = s.icm.ambient) :
    let t := (s.withIcing now m).enterIcedEvent
    t = { s with now := now, msc := t.msc, alt := t.alt, sns := t.sns, sst := t.sst, icm := m.untimed .iced }
      ∧ IcingEvent s t now := by
  let u := s.withIcing now m
  let entered := u.enterUntimed .iced
  let v := entered.eventSnapped
  let w := (v.raise s.eventAlarm).itemsCounted (addedTo (fun it => it.basis = .ice) 1)
  have temperature := knownTemperature_congr ambient
  have alarm : u.eventAlarm = s.eventAlarm := by
    unfold State.eventAlarm
    rw [show u.icm.settings = s.icm.settings from settings, show u.icm.knownTemperature = _ from temperature]
    rfl
  have event : u.enterIcedEvent = State.requestWrite w := by rw [enterIcedEvent_eq, icedEvent_eq, alarm]
  have v_eq : v = { entered with sns := v.sns } := eventSnapped_onlySns entered
  have w_sns : w.sns = v.sns := rfl
  have w_eq : w = { entered with sns := w.sns, msc := w.msc, alt := w.alt } :=
    (congrArg (fun x : State => { x with msc := w.msc, alt := w.alt }) v_eq).trans
      (congrArg (fun x => { entered with sns := x, msc := w.msc, alt := w.alt }) w_sns.symm)
  have alike : StampsAlike v s := by
    rw [v_eq]
    exact ⟨rfl, rfl, rfl, rfl, rfl⟩
  have items : v.msc = s.msc := (congrArg State.msc v_eq :)
  let counted := (s.raise s.eventAlarm).itemsCounted (addedTo (fun it => it.basis = .ice) 1)
  have both : w.msc = counted.msc ∧ w.alt = counted.alt := (alike.raise s.eventAlarm).itemsCounted items _
  have snapped : w.sns = _ := w_sns.trans (eventSnapped_sns entered)
  rw [show entered.icm.settings = s.icm.settings from settings] at snapped
  have sst := requestWrite_sst w
  rw [show w.sst = s.sst from (congrArg State.sst w_eq :), show w.now = now from (congrArg State.now w_eq :)] at sst
  dsimp only
  rw [show (s.withIcing now m).enterIcedEvent = _ from event]
  clear_value w
  exact ⟨(congrArg (fun x : State => { x with sst := w.requestWrite.sst }) w_eq :), both.2, both.1, snapped, sst⟩

/-- THAW ends, in CLEAR or in ICED again, with its alert and a store write (R122, R125, R128). -/
theorem enterReported_happens (s : State) (now : Tick) {m : Icm} (settings : m.settings = s.icm.settings)
    (ambient : m.ambient = s.icm.ambient) (st : IcingState) (v : Severity) :
    let u := s.withIcing now m
    let t := (u.enterReported st (u.thawAlert v)).requestWrite
    t = { s with now := now, alt := t.alt, sst := t.sst, icm := m.untimed st }
      ∧ t.alt = (s.raise ⟨.iceState, v, .none, none, s.icm.knownTemperature, some s.icm.settings.tice, .absent⟩).alt
      ∧ t.sst = (if s.sst.inFlight.isSome then { s.sst with pendingWrite := true }
          else { s.sst with inFlight := some ⟨t.contents, now⟩ }) := by
  intro u t
  have alert : u.thawAlert v = ⟨.iceState, v, .none, none, s.icm.knownTemperature, some s.icm.settings.tice, .absent⟩ := by
    rw [← knownTemperature_congr ambient, ← settings]
    rfl
  have alike : StampsAlike (u.enterUntimed st) s := ⟨rfl, rfl, rfl, rfl, rfl⟩
  exact ⟨rfl, (alike.raise _).alt.trans (by rw [alert]), requestWrite_sst (u.enterReported st (u.thawAlert v))⟩

/-! ### The expiry of the timers -/

/-- Settles O55: T_confirm's expiry by COLD, T_thaw's by the temperature. -/
theorem icingTimersExpire : Obligations.IcingTimersExpire := by
  intro s due now entering running
  have confirmRow : exec .tConfirmExpiry s = .next (s.atDue s.icm.confirmAt State.confirmExpired) := rfl
  have thawRow : exec .tThawExpiry s = .next (s.atDue s.icm.thawAt State.thawExpired) := rfl
  have same : s.advance due = s.withIcing now s.icm := rfl
  refine ⟨fun suspect runs => ?_, fun thaw runs => ?_⟩
  · have at' : s.icm.confirmAt = some due := by rw [Icm.confirmAt, if_pos suspect, runs]
    rw [confirmRow, at', atDue_running running, State.confirmExpired, State.advance_icm]
    refine ⟨fun warm => ?_, fun maybeCold => ?_⟩
    · rw [if_pos warm]
      rfl
    · rw [if_neg maybeCold, same]
      exact ⟨_, rfl, enterIcedEvent_happens s now (m := s.icm) rfl rfl⟩
  · have at' : s.icm.thawAt = some due := by rw [Icm.thawAt, if_pos thaw, runs]; rfl
    rw [thawRow, at', atDue_running running, State.thawExpired, State.advance_icm]
    refine ⟨fun temperature known above => ?_, fun below => ?_⟩
    · simp only [known, gt_iff_lt, if_pos above, same]
      have happens := enterReported_happens s now (m := s.icm) rfl rfl .clear .note
      rw [known] at happens
      exact ⟨_, rfl, happens⟩
    · cases known : s.icm.knownTemperature with
      | none => rfl
      | some temperature =>
        have low : ¬s.icm.settings.tice < temperature := Int.not_lt.2 (below temperature known)
        simp only [gt_iff_lt, if_neg low]

end Sys2Proof.Machine
end

section
set_option Elab.async false
/-! The icing evaluation (R114 to R125): its criteria, the evidence counts while the state stays, the state it moves to, and what the
baseline learns. -/

namespace Sys2Proof.Machine

/-! ### The criteria -/

/-- The ambient record while it is fresh (R108). -/
def Icm.freshAmbient (m : Icm) : Option Ambient := m.ambient.filter fun a => a.fresh

theorem knownTemperature_eq (m : Icm) : m.knownTemperature = m.freshAmbient.map fun a => a.temperature := by
  unfold Icm.knownTemperature Icm.freshAmbient
  cases m.ambient with
  | none => rfl
  | some a => cases fresh : a.fresh <;> simp [Option.filter, fresh]

theorem cold_eq (m : Icm) :
    m.cold = m.freshAmbient.map fun a => decide (a.temperature ≤ m.settings.tice ∧ (m.settings.hice : Int) ≤ a.humidity) := by
  unfold Icm.cold Icm.freshAmbient
  cases m.ambient with
  | none => rfl
  | some a => cases fresh : a.fresh <;> simp [Option.filter, fresh]

theorem evaluatedO1_eq (m : Icm) (mode : ServiceMode) :
    m.evaluatedO1 mode = (m.gathered.filter fun g => decide (g.owner = some .tl ∧ mode ≠ .test)).map fun g => g.value := by
  unfold Icm.evaluatedO1
  cases m.gathered with
  | none => rfl
  | some g => by_cases judged : g.owner = some .tl ∧ mode ≠ .test <;> simp [Option.filter, judged]

theorem inCurveRange_iff (curve : List CurvePoint) (w : Int) :
    inCurveRange curve w = true ↔ ∃ p ∈ curve.head?, ∃ q ∈ curve.getLast?, (p.wind : Int) ≤ w ∧ w ≤ q.wind := by
  unfold inCurveRange
  cases curve.head? <;> cases curve.getLast? <;> simp

theorem deficitExpected_eq (s : State) :
    s.deficitExpected =
      s.icm.freshAmbient.bind fun a =>
        if 2 ≤ s.rgc.regime.val ∧ s.gra.power.isSome ∧ s.icm.powerCount ≠ 0 ∧ 2 ≤ s.icm.curve.length
            ∧ ∃ p ∈ s.icm.curve.head?, ∃ q ∈ s.icm.curve.getLast?, (p.wind : Int) ≤ a.wind ∧ a.wind ≤ q.wind then
          some (expectedPower s.icm.curve a.wind)
        else none := by
  unfold State.deficitExpected Icm.freshAmbient
  cases s.icm.ambient with
  | none => rfl
  | some a =>
    cases fresh : a.fresh with
    | false => simp [Option.filter, fresh]
    | true => simp [Option.filter, fresh, curveValid, inCurveRange_iff]

/-- DEFICIT compares the mean of the gathered power with the expected power (R117). -/
theorem deficit_eq (s : State) :
    s.deficit = s.deficitExpected.map fun x =>
      decide (s.icm.powerSum / (s.icm.powerCount : Int) * 1000 < x * (1000 - (s.icm.settings.powerMargin : Int))) := by
  unfold State.deficit
  cases expected : s.deficitExpected with
  | none => rfl
  | some x =>
    have gathered : s.icm.powerCount ≠ 0 := by
      rw [deficitExpected_eq] at expected
      obtain ⟨a, -, found⟩ := Option.bind_eq_some_iff.1 expected
      split at found
      next causes => exact causes.2.2.1
      next => cases found
    rw [Icm.meanPower, if_neg gathered]
    rfl

theorem imbalance_eq (m : Icm) (o1 : Option Nat) :
    m.imbalance o1 =
      if m.learnedCount < 16 then none
      else o1.map fun v => decide (m.baseline * (1000 + m.settings.imbalanceMargin) < v * 1000) := by
  unfold Icm.imbalance Icm.baselineValid
  cases o1 with
  | none => simp
  | some v => by_cases few : m.learnedCount < 16 <;> simp [few]

/-! ### Where the icing state goes -/

/-- The icing monitor after an evaluation at which its state stays: the evidence counts (R119, R120). -/
def Icm.standing (m : Icm) (cold deficit imbalance : Option Bool) : Icm :=
  let confirms := deficit = some true ∧ imbalance = some true
  let clears := deficit = some false ∧ imbalance = some false
  match m.state with
  | .watch =>
    { m with
      e1 := if cold = some true then (if deficit = some true ∨ imbalance = some true then m.e1 + 1 else 0) else m.e1 }
  | .suspect =>
    { m with
      e2 := if confirms then m.runAfter .confirm else if clears then m.runAfter .clear else 0
      runKind := if confirms then some .confirm else if clears then some .clear else none }
  | .clear | .iced | .thaw => m

/-- The icing monitor after its state has moved: the counts are 0, and SUSPECT and THAW start their timers (R118, R119, R122). -/
def Icm.movedTo (m : Icm) (st : IcingState) (now : Tick) : Icm :=
  { m.entering st with
    tConfirm := if st = .suspect then some (now + m.settings.tConfirm * 2000000) else if st = .thaw then m.tConfirm else none
    tThaw := if st = .thaw then .running (now + m.settings.tThaw * 2000000) else if st = .suspect then m.tThaw else .stopped }

/-- The icing monitor after step 4 of an evaluation. -/
def Icm.after (m : Icm) (cold deficit imbalance : Option Bool) (now : Tick) : Icm :=
  let st := m.stateAfter cold deficit imbalance m.knownTemperature
  if st = m.state then m.standing cold deficit imbalance else m.movedTo st now

/-- The alert a THAW that ends raises: WARN for a re-entry, NOTE for a thaw (R128). -/
def thawSeverity (st : IcingState) : Severity := if st = .iced then .warn else .note

section
variable (s : State) (cold deficit imbalance : Option Bool)

/-- The state after step 4: the icing monitor alone, but for a new icing event and for the end of a THAW. -/
def State.icingMoved : State :=
  let st := s.icm.stateAfter cold deficit imbalance s.icm.knownTemperature
  if s.icm.state = .suspect ∧ st = .iced then s.enterIcedEvent
  else if s.icm.state = .thaw ∧ st ≠ .thaw then (s.enterReported st (s.thawAlert (thawSeverity st))).requestWrite
  else { s with icm := s.icm.after cold deficit imbalance s.now }

variable {s cold deficit imbalance}

theorem moveIcing_clear (clear : s.icm.state = .clear) :
    s.moveIcing cold deficit imbalance = s.icingMoved cold deficit imbalance := by
  have next : s.icm.stateAfter cold deficit imbalance s.icm.knownTemperature = if cold = some true then .watch else .clear := by
    simp only [Icm.stateAfter, clear]
  simp only [State.moveIcing, State.icingMoved, Icm.after, clear, next]
  by_cases isCold : cold = some true
  · simp [isCold]
    rfl
  · simp [isCold, Icm.standing, clear]

theorem moveIcing_watch (watch : s.icm.state = .watch) :
    s.moveIcing cold deficit imbalance = s.icingMoved cold deficit imbalance := by
  have next : s.icm.stateAfter cold deficit imbalance s.icm.knownTemperature =
      if cold = some false then .clear
      else if cold = some true ∧ (deficit = some true ∨ imbalance = some true) ∧ 2 ≤ s.icm.e1 then .suspect
      else .watch := by
    simp only [Icm.stateAfter, watch]
  simp only [State.moveIcing, State.icingMoved, Icm.after, watch, next]
  unfold State.evaluateWatch
  cases cold with
  | none =>
    simp only [Icm.standing, watch]
    simp
    rw [← watch]
  | some isCold =>
    cases isCold with
    | false => simp; rfl
    | true =>
      by_cases evidence : deficit = some true ∨ imbalance = some true
      · by_cases third : 2 ≤ s.icm.e1
        · simp [evidence, third]; rfl
        · simp [evidence, third, Icm.standing, watch]
      · simp [evidence, Icm.standing, watch]

theorem runAfter_third (m : Icm) (kind : RunKind) : 3 ≤ m.runAfter kind ↔ m.runKind = some kind ∧ 2 ≤ m.e2 := by
  unfold Icm.runAfter
  by_cases same : m.runKind = some kind <;> simp [same]

theorem moveIcing_suspect (suspect : s.icm.state = .suspect) :
    s.moveIcing cold deficit imbalance = s.icingMoved cold deficit imbalance := by
  let confirms := deficit = some true ∧ imbalance = some true
  let clears := deficit = some false ∧ imbalance = some false
  have next : s.icm.stateAfter cold deficit imbalance s.icm.knownTemperature =
      if confirms ∧ 3 ≤ s.icm.runAfter .confirm then .iced
      else if clears ∧ 3 ≤ s.icm.runAfter .clear then .watch
      else .suspect := by
    simp only [Icm.stateAfter, suspect, runAfter_third, confirms, clears, and_assoc]
  have moves : s.evaluateSuspect deficit imbalance =
      if confirms then
        if 3 ≤ s.icm.runAfter .confirm then s.enterIcedEvent
        else { s with icm := { s.icm with e2 := s.icm.runAfter .confirm, runKind := some .confirm } }
      else if clears then
        if 3 ≤ s.icm.runAfter .clear then s.enterUntimed .watch
        else { s with icm := { s.icm with e2 := s.icm.runAfter .clear, runKind := some .clear } }
      else { s with icm := { s.icm with e2 := 0, runKind := none } } := by
    unfold State.evaluateSuspect
    split
    next => simp [confirms]
    next => simp [confirms, clears]
    next noConfirms noClears =>
      have notConfirms : ¬confirms := fun ⟨judged, placed⟩ => noConfirms judged placed
      have notClears : ¬clears := fun ⟨judged, placed⟩ => noClears judged placed
      rw [if_neg notConfirms, if_neg notClears]
  have stays : s.icm.standing cold deficit imbalance = { s.icm with
      e2 := if confirms then s.icm.runAfter .confirm else if clears then s.icm.runAfter .clear else 0
      runKind := if confirms then some .confirm else if clears then some .clear else none } := by
    simp only [Icm.standing, suspect, confirms, clears]
  rw [State.moveIcing, suspect]
  dsimp only
  rw [moves]
  simp only [State.icingMoved, Icm.after, suspect, next]
  by_cases confirming : confirms
  · have clearing : ¬clears := fun ⟨judged, _⟩ => by
      obtain ⟨contrary, -⟩ := confirming
      rw [contrary] at judged
      cases judged
    by_cases third : 3 ≤ s.icm.runAfter .confirm
    · simp [confirming, third]
    · simp [confirming, third, clearing, stays, suspect]
  · by_cases clearing : clears
    · by_cases third : 3 ≤ s.icm.runAfter .clear
      · simp [confirming, clearing, third]
        rfl
      · simp [confirming, clearing, third, stays, suspect]
    · simp [confirming, clearing, stays, suspect]

theorem moveIcing_iced (iced : s.icm.state = .iced) :
    s.moveIcing cold deficit imbalance = s.icingMoved cold deficit imbalance := by
  have next : s.icm.stateAfter cold deficit imbalance s.icm.knownTemperature =
      if ∃ t ∈ s.icm.knownTemperature, s.icm.settings.tice + 20 ≤ t then .thaw else .iced := by
    simp only [Icm.stateAfter, iced]
  simp only [State.moveIcing, State.icingMoved, Icm.after, iced, next]
  unfold State.evaluateIced
  cases known : s.icm.knownTemperature with
  | none => simp [Icm.standing, iced]
  | some t =>
    by_cases warm : s.icm.settings.tice + 20 ≤ t
    · simp [warm]; rfl
    · simp [warm, Icm.standing, iced]

theorem moveIcing_thaw (thaw : s.icm.state = .thaw) :
    s.moveIcing cold deficit imbalance = s.icingMoved cold deficit imbalance := by
  have next : s.icm.stateAfter cold deficit imbalance s.icm.knownTemperature =
      if ∃ t ∈ s.icm.knownTemperature, t ≤ s.icm.settings.tice then .iced
      else if s.icm.knownTemperature.isSome ∧ s.icm.tThaw = .elapsed then .clear
      else .thaw := by
    simp only [Icm.stateAfter, thaw]
  simp only [State.moveIcing, State.icingMoved, Icm.after, thaw, next]
  unfold State.evaluateThaw
  cases known : s.icm.knownTemperature with
  | none => simp [Icm.standing, thaw]
  | some t =>
    by_cases low : t ≤ s.icm.settings.tice
    · simp [low, reenterIced_eq]; rfl
    · by_cases elapsed : s.icm.tThaw = .elapsed
      · simp [low, elapsed, thawed_eq]; rfl
      · simp [low, elapsed, Icm.standing, thaw]

variable (s cold deficit imbalance)

theorem moveIcing_eq : s.moveIcing cold deficit imbalance = s.icingMoved cold deficit imbalance := by
  cases state : s.icm.state with
  | clear => exact moveIcing_clear state
  | watch => exact moveIcing_watch state
  | suspect => exact moveIcing_suspect state
  | iced => exact moveIcing_iced state
  | thaw => exact moveIcing_thaw state

/-- THAW is left for ICED or CLEAR alone (R122, R125). -/
theorem stateAfter_thaw {m : Icm} (thaw : m.state = .thaw) {temperature : Option Int}
    (ends : m.stateAfter cold deficit imbalance temperature ≠ .thaw) :
    m.stateAfter cold deficit imbalance temperature = .iced ∨ m.stateAfter cold deficit imbalance temperature = .clear := by
  simp only [Icm.stateAfter, thaw] at ends ⊢
  split
  next => exact .inl rfl
  next warm =>
    split
    next => exact .inr rfl
    next stays => exact absurd (by rw [if_neg warm, if_neg stays]) ends

theorem icingMoved_icm : (s.icingMoved cold deficit imbalance).icm = s.icm.after cold deficit imbalance s.now := by
  unfold State.icingMoved Icm.after
  dsimp only
  split
  next event =>
    obtain ⟨suspect, iced⟩ := event
    rw [enterIcedEvent_icm, iced, suspect]
    rfl
  next =>
    split
    next ends =>
      obtain ⟨thaw, left⟩ := ends
      rw [requestWrite_icm, thaw, if_neg left]
      rcases stateAfter_thaw cold deficit imbalance thaw left with next | next <;> rw [next] <;> rfl
    next => rfl

theorem icedEvent_frame :
    let t := s.enterIcedEvent
    t = { s with icm := t.icm, msc := t.msc, alt := t.alt, sns := t.sns, sst := t.sst } := by
  have frame := (enterIcedEvent_happens s s.now (m := s.icm) rfl rfl).1
  dsimp only
  rw [enterIcedEvent_icm]
  exact frame

theorem icingMoved_frame :
    let t := s.icingMoved cold deficit imbalance
    t = { s with icm := t.icm, msc := t.msc, alt := t.alt, sns := t.sns, sst := t.sst } := by
  unfold State.icingMoved
  dsimp only
  split
  next => exact icedEvent_frame s
  next =>
    split
    next => rfl
    next => rfl

end

section
variable {s : State} {cold deficit imbalance : Option Bool} {st : IcingState}
  (next : s.icm.stateAfter cold deficit imbalance s.icm.knownTemperature = st)
include next

theorem icingMoved_event (suspect : s.icm.state = .suspect) (iced : st = .iced) :
    s.icingMoved cold deficit imbalance = s.enterIcedEvent :=
  if_pos ⟨suspect, next.trans iced⟩

theorem icingMoved_ends (thaw : s.icm.state = .thaw) (left : st ≠ .thaw) :
    s.icingMoved cold deficit imbalance = (s.enterReported st (s.thawAlert (thawSeverity st))).requestWrite := by
  subst next
  exact (if_neg fun both => by rw [thaw] at both; cases both.1).trans (if_pos ⟨thaw, left⟩)

theorem icingMoved_quiet (noEvent : ¬(s.icm.state = .suspect ∧ st = .iced)) (noEnd : ¬(s.icm.state = .thaw ∧ st ≠ .thaw)) :
    s.icingMoved cold deficit imbalance = { s with icm := s.icm.after cold deficit imbalance s.now } := by
  subst next
  exact (if_neg noEvent).trans (if_neg noEnd)

end

/-- What an evaluation never changes of the icing monitor at step 4. -/
theorem after_kept (m : Icm) (cold deficit imbalance : Option Bool) (now : Tick) :
    let n := m.after cold deficit imbalance now
    n = { m with
      state := n.state, icestop := n.icestop, e1 := n.e1, e2 := n.e2, runKind := n.runKind, tConfirm := n.tConfirm
      tThaw := n.tThaw } := by
  unfold Icm.after
  dsimp only
  split
  next =>
    unfold Icm.standing
    dsimp only
    split <;> rfl
  next => rfl

section
variable (m : Icm) (cold deficit imbalance : Option Bool)

theorem Icm.standing_watch (watch : m.state = .watch) :
    m.standing cold deficit imbalance = { m with
      e1 := if cold = some true then (if deficit = some true ∨ imbalance = some true then m.e1 + 1 else 0) else m.e1 } := by
  simp only [Icm.standing, watch]

theorem Icm.standing_suspect (suspect : m.state = .suspect) :
    m.standing cold deficit imbalance =
      let confirms := deficit = some true ∧ imbalance = some true
      let clears := deficit = some false ∧ imbalance = some false
      { m with
        e2 := if confirms then m.runAfter .confirm else if clears then m.runAfter .clear else 0
        runKind := if confirms then some .confirm else if clears then some .clear else none } := by
  simp only [Icm.standing, suspect]

theorem Icm.standing_else (notWatch : m.state ≠ .watch) (notSuspect : m.state ≠ .suspect) :
    m.standing cold deficit imbalance = m := by
  unfold Icm.standing
  dsimp only
  split <;> trivial

end

theorem standing_kept (m : Icm) (cold deficit imbalance : Option Bool) :
    let n := m.standing cold deficit imbalance
    n.state = m.state ∧ n.icestop = m.icestop ∧ n.tConfirm = m.tConfirm ∧ n.tThaw = m.tThaw := by
  unfold Icm.standing
  dsimp only
  split <;> exact ⟨rfl, rfl, rfl, rfl⟩

/-! ### What the baseline learns -/

/-- The icing monitor after step 5 of an evaluation (R123). -/
def Icm.learnedWhen (m : Icm) (may : Bool) (o1 : Option Nat) : Icm :=
  match may, o1 with
  | true, some v => m.learnedFrom v
  | _, _ => m

theorem learnBaseline_eq (s : State) (may : Bool) (o1 : Option Nat) :
    s.learnBaseline may o1 = { s with icm := s.icm.learnedWhen may o1 } := by
  cases may <;> cases o1 <;> rfl

theorem learnedWhen_kept (m : Icm) (may : Bool) (o1 : Option Nat) :
    m.learnedWhen may o1 =
      { m with baseline := (m.learnedWhen may o1).baseline, learnedCount := (m.learnedWhen may o1).learnedCount } := by
  cases may <;> cases o1 <;> rfl

theorem learnedWhen_never (m : Icm) {may : Bool} {o1 : Option Nat} (never : may = false ∨ o1 = none) : m.learnedWhen may o1 = m := by
  rcases never with rfl | rfl
  · cases o1 <;> rfl
  · cases may <;> rfl

theorem mayLearn_iff (s : State) :
    s.mayLearn = true ↔ s.icm.state = .clear ∧ s.icm.cold = some false ∧ 2 ≤ s.rgc.regime.val := decide_eq_true_iff

theorem evalRecord_eq (s : State) :
    s.evalRecord =
      ⟨s.clk.deviceSeconds, s.icm.cold, s.deficit, s.icm.imbalance (s.icm.evaluatedO1 s.skd.mode), s.icm.meanPower,
        s.icm.evaluatedO1 s.skd.mode, s.deficitExpected, s.rgc.regime,
        decide (s.icm.state = .clear ∧ s.icm.cold = some false ∧ 2 ≤ s.rgc.regime.val
          ∧ (s.icm.evaluatedO1 s.skd.mode).isSome)⟩ := by
  have learned : decide (s.mayLearn = true ∧ (s.icm.evaluatedO1 s.skd.mode).isSome = true) = decide _ :=
    decide_eq_decide.2 (by rw [mayLearn_iff, and_assoc, and_assoc])
  rw [State.evalRecord, learned]

theorem IcingEvent.congr {s t u : State} {now : Tick} (event : IcingEvent s t now) (alt : u.alt = t.alt) (msc : u.msc = t.msc)
    (sns : u.sns = t.sns) (sst : u.sst = t.sst) (contents : u.contents = t.contents) : IcingEvent s u now := by
  unfold IcingEvent at event ⊢
  rw [alt, msc, sns, sst, contents]
  exact event

/-! ### The evaluation -/

/-- The icing monitor once both gatherings are empty and the next evaluation is set (R114). -/
def Icm.emptied (m : Icm) (due : Tick) : Icm :=
  { m with powerSum := 0, powerCount := 0, gathered := none, nextEval := some (due + m.settings.period * 2000000) }

/-- What an evaluation due at `due` leaves before the baseline learns. -/
def State.evaluatedAt (s : State) (due : Tick) : State :=
  (s.withIcing (max s.now due) (s.icm.emptied due)).icingMoved s.icm.cold s.deficit (s.icm.imbalance (s.icm.evaluatedO1 s.skd.mode))

theorem exec_iceEvaluation {s : State} {due : Tick} (running : s.phase = .running) (next : s.icm.nextEval = some due) :
    let t := s.evaluatedAt due
    let learned := t.icm.learnedWhen s.mayLearn (s.icm.evaluatedO1 s.skd.mode)
    exec .iceEvaluation s = .next { t with
      icm := { t.icm with
        baseline := learned.baseline, learnedCount := learned.learnedCount, lastEval := some s.evalRecord } } := by
  have row : exec .iceEvaluation s = .next (s.atDue s.icm.nextEval fun t => t.evaluateIcing (s.icm.nextEval.getD 0)) := rfl
  rw [row, next, atDue_running running, Option.getD_some, State.evaluateIcing, moveIcing_eq, learnBaseline_eq,
    learnedWhen_kept]
  rfl

theorem evaluatedAt_icm (s : State) (due : Tick) :
    (s.evaluatedAt due).icm =
      (s.icm.emptied due).after s.icm.cold s.deficit (s.icm.imbalance (s.icm.evaluatedO1 s.skd.mode)) (max s.now due) :=
  icingMoved_icm ..

/-- Settles O54: the criteria by their lemmas, and the evaluation by what step 4 makes of the state and step 5 of the baseline. -/
theorem evaluationMovesTheIcingState : Obligations.EvaluationMovesTheIcingState := by
  refine ⟨fun s o1 => ⟨knownTemperature_eq _, cold_eq _, rfl, evaluatedO1_eq _ _, deficitExpected_eq s, deficit_eq s,
    imbalance_eq _ _⟩, ?_⟩
  intro s due m o1 imbalance state now evidence confirms clears run running next
  let m0 := m.emptied due
  let u := s.withIcing now m0
  let moved := s.evaluatedAt due
  let n := m0.after m.cold s.deficit imbalance now
  have moved_icm : moved.icm = n := evaluatedAt_icm s due
  have st : m0.stateAfter m.cold s.deficit imbalance m0.knownTemperature = state := rfl
  let learned := n.learnedWhen s.mayLearn o1
  let t : State := { moved with
    icm := { n with baseline := learned.baseline, learnedCount := learned.learnedCount, lastEval := some s.evalRecord } }
  have row : exec .iceEvaluation s = .next t := by
    have whole := exec_iceEvaluation running next
    dsimp only at whole
    rw [evaluatedAt_icm] at whole
    exact whole
  have n_eq : n = _ := after_kept m0 m.cold s.deficit imbalance now
  have frame : moved = { s with
      now := now, icm := moved.icm, msc := moved.msc, alt := moved.alt, sns := moved.sns, sst := moved.sst } :=
    icingMoved_frame u m.cold s.deficit imbalance
  have stays (same : state = m.state) : n = m0.standing m.cold s.deficit imbalance := if_pos same
  have moves (left : state ≠ m.state) : n = m0.movedTo state now := if_neg left
  have unlearned (not : m.state ≠ .clear ∨ m.cold ≠ some false ∨ s.rgc.regime.val < 2 ∨ o1 = none) : learned = n := by
    refine learnedWhen_never n ?_
    by_cases unknown : o1 = none
    · exact .inr unknown
    · refine .inl (Bool.eq_false_iff.2 fun may => ?_)
      obtain ⟨clear, warm, above⟩ := (mayLearn_iff s).1 may
      rcases not with other | other | below | none
      · exact other clear
      · exact other warm
      · exact absurd above (Nat.not_le.2 below)
      · exact unknown none
  have contents (not : m.state ≠ .clear) : t.contents = moved.contents := by
    change State.contents { moved with icm := _ } = _
    rw [unlearned (.inl not), ← moved_icm]
    rfl
  obtain ⟨stand_state, stand_icestop, stand_tConfirm, stand_tThaw⟩ := standing_kept m0 m.cold s.deficit imbalance
  refine ⟨t, row, ?_, ?_, (congrArg Icm.powerSum n_eq :), (congrArg Icm.powerCount n_eq :), (congrArg Icm.gathered n_eq :),
    (congrArg Icm.nextEval n_eq :), (congrArg Icm.settings n_eq :), (congrArg Icm.curve n_eq :), (congrArg Icm.ambient n_eq :),
    congrArg some (evalRecord_eq s), fun same => ?_, fun left => ?_, fun suspect iced => ?_, fun thaw left => ?_, fun quiet => ?_,
    fun clear warm above v known => ?_, fun not => ?_⟩
  · exact (congrArg (fun x : State => { x with icm := t.icm }) frame :)
  · change n.state = state
    by_cases same : state = m.state
    · rw [stays same, same]
      exact stand_state
    · rw [moves same]
      rfl
  · change n.icestop = _ ∧ n.tConfirm = _ ∧ n.tThaw = _ ∧ (_ → n.e1 = _ ∧ n.e2 = _ ∧ n.runKind = _)
      ∧ (_ → n.e1 = _ ∧ n.e2 = _ ∧ n.runKind = _) ∧ (_ → _ → n.e1 = _ ∧ n.e2 = _ ∧ n.runKind = _)
    rw [stays same]
    refine ⟨stand_icestop, stand_tConfirm, stand_tThaw, fun watch => ?_, fun suspect => ?_, fun notWatch notSuspect => ?_⟩
    · have counted := m0.standing_watch m.cold s.deficit imbalance watch
      rw [counted]
      exact ⟨rfl, rfl, rfl⟩
    · have counted := m0.standing_suspect m.cold s.deficit imbalance suspect
      rw [counted]
      exact ⟨rfl, rfl, rfl⟩
    · have counted := m0.standing_else m.cold s.deficit imbalance notWatch notSuspect
      rw [counted]
      exact ⟨rfl, rfl, rfl⟩
  · change n.e1 = _ ∧ n.e2 = _ ∧ n.runKind = _ ∧ n.icestop = _ ∧ n.tConfirm = _ ∧ n.tThaw = _
    rw [moves left]
    exact ⟨rfl, rfl, rfl, rfl, rfl, rfl⟩
  · have event : moved = u.enterIcedEvent := icingMoved_event (s := u) st suspect iced
    have happens := (enterIcedEvent_happens s now (m := m0) rfl rfl).2
    rw [← show moved = (s.withIcing now m0).enterIcedEvent from event] at happens
    exact happens.congr rfl rfl rfl rfl (contents (by rw [suspect]; decide))
  · have ends : moved = (u.enterReported state (u.thawAlert (thawSeverity state))).requestWrite :=
      icingMoved_ends (s := u) st thaw left
    obtain ⟨whole, alt, sst⟩ := enterReported_happens s now (m := m0) rfl rfl state (thawSeverity state)
    rw [contents (by rw [thaw]; decide)]
    change moved.alt = _ ∧ moved.sst = _ ∧ moved.msc = _ ∧ moved.sns = _
    rw [ends]
    exact ⟨alt, sst, (congrArg State.msc whole :), (congrArg State.sns whole :)⟩
  · have unmoved : moved = { u with icm := n } := by
      refine icingMoved_quiet (s := u) st (fun ⟨suspect, iced⟩ => ?_) fun ⟨thaw, left⟩ => ?_
      · rw [show m.state = .suspect from suspect, iced] at quiet
        simp at quiet
      · have target := stateAfter_thaw m.cold s.deficit imbalance (m := m0) thaw left
        rw [show m.state = .thaw from thaw] at quiet
        rcases target with next | next <;> rw [show state = _ from next] at quiet <;> simp at quiet
    change moved.alt = _ ∧ moved.sst = _ ∧ moved.msc = _ ∧ moved.sns = _
    rw [unmoved]
    exact ⟨rfl, rfl, rfl, rfl⟩
  · change learned.learnedCount = _ ∧ learned.baseline = _
    have learns : learned = n.learnedFrom v := by
      change n.learnedWhen s.mayLearn o1 = _
      rw [(mayLearn_iff s).2 ⟨clear, warm, above⟩, known]
      rfl
    have count : n.learnedCount = m.learnedCount := (congrArg Icm.learnedCount n_eq :)
    have baseline : n.baseline = m.baseline := (congrArg Icm.baseline n_eq :)
    rw [learns, Icm.learnedFrom, count, baseline]
    exact ⟨rfl, rfl⟩
  · change learned.learnedCount = _ ∧ learned.baseline = _
    rw [unlearned not]
    exact ⟨(congrArg Icm.learnedCount n_eq :), (congrArg Icm.baseline n_eq :)⟩

end Sys2Proof.Machine
end

section
set_option Elab.async false
/-! Start-up (R180, R181), its end, and the loss of supply (R177). -/

namespace Sys2Proof.Machine

/-! ### What start-up loads -/

theorem loaded_eq (x : StoredItem) :
    x.loaded =
      let it : Item := ⟨x.tag, x.basis, x.source, x.interval, x.lead, x.accrued, .unused, x.calendarStart, x.lastDone, x.doneCount⟩
      { it with state := it.stateAt x.accrued } := by
  rw [StoredItem.loaded]
  dsimp only
  rw [← computedState_eq_stateAt]

theorem savOf_eq (image : Image) (va : Fin 6) :
    image.savOf va =
      let owner : Option Channel := [Channel.tl, .th, .tg].find? fun ch => .va va ∈ image.scan.list ch
      { settings := image.inputs.get va, owner := owner, n := 0
        samples := (owner.map fun ch => (image.track.get ch).n).getD 256
        acc := List.replicate 256 0, buffer := none, counts := ⟨0, 0, 0, 0, 0⟩, clipRun := 0 } := by
  rw [Image.savOf, Image.samplesOf, owner_eq_find]
  cases [Channel.tl, .th, .tg].find? fun ch => .va va ∈ image.scan.list ch <;> rfl

theorem icmAfterStartUp_eq (image : Image) :
    Icm.afterStartUp image.ice image.curve image.baseline image.learnedCount image.icing =
      { settings := image.ice, curve := image.curve, ambient := none, powerSum := 0, powerCount := 0, gathered := none
        state := match image.icing with | .clear => .clear | .iced => .iced | .thaw => .thaw
        e1 := 0, e2 := 0, runKind := none, tConfirm := none, tThaw := .stopped, baseline := image.baseline
        learnedCount := image.learnedCount, lastEval := none, nextEval := none, icestop := decide (image.icing ≠ .clear) } := by
  unfold Icm.afterStartUp
  cases image.icing <;> rfl

theorem loadedFrom_eq (s : State) (image : Image) :
    s.loadedFrom image = { s.startedUp (.valid image) with sst := Sst.afterStartUp s.sst.image } := by
  rw [State.loadedFrom, icmAfterStartUp_eq, funext (savOf_eq image), funext loaded_eq]
  rfl

/-- Start-up leaves what the statements give, whether it loads an image or the defaults. -/
theorem startUp_eq (s : State) : s.startUp = s.startedUp s.sst.image := by
  unfold State.startUp
  cases stored : s.sst.image with
  | valid image =>
    change s.loadedFrom image = _
    rw [loadedFrom_eq, stored]
    rfl
  | blank | bad =>
    change (s.loadedFrom Image.defaults).raise storeDefaultsAlert = _
    rw [loadedFrom_eq, stored]
    rfl

/-- POWER_ON loses the supply first, and starts up from what is left (R177, R180). -/
theorem powerOn_eq (s : State) :
    s.powerOn =
      ({ s with now := 0, clk := ⟨0, 2000000, none⟩, lnk := { s.lnk with lineLow := false } } : State).startedUp s.sst.cutShort := by
  rw [State.powerOn, startUp_eq]
  rfl

theorem exec_resetBegin_ready {s : State} (running : s.phase = .running) (replied : s.lnk.reset = .replied)
    (idle : s.sst.inFlight = none) (none : s.sst.pendingWrite = false) (tick : Tick) :
    exec (.resetBegin tick) s = .next (s.advance tick).startUp := by
  have ready : s.resetReady = true := by simp [State.resetReady, replied, idle, none]
  exact if_pos ⟨running, ready⟩

theorem exec_resetBegin_else {s : State}
    (not : s.phase ≠ .running ∨ s.lnk.reset ≠ .replied ∨ s.sst.inFlight.isSome ∨ s.sst.pendingWrite = true) (tick : Tick) :
    exec (.resetBegin tick) s = .next s := by
  refine if_neg fun ⟨running, ready⟩ => ?_
  obtain ⟨replied, idle, none⟩ := of_decide_eq_true ready
  rcases not with stopped | unreplied | writing | pending
  · exact stopped running
  · exact unreplied replied
  · rw [idle] at writing; cases writing
  · rw [none] at pending; cases pending

/-- Settles O35: both start up as `startUp_eq` says; the defaults are the constants of their rules. -/
theorem startUpLoadsImageOrDefaults : Obligations.StartUpLoadsImageOrDefaults := by
  refine ⟨fun s => ⟨?_, fun tick => ⟨fun running replied idle none => ?_, fun not => exec_resetBegin_else not tick⟩⟩, rfl, rfl, rfl⟩
  · have row : exec .powerOn s = .next s.powerOn := rfl
    rw [row, powerOn_eq]
    rfl
  · rw [exec_resetBegin_ready running replied idle none, startUp_eq]
    rfl

/-! ### The end of start-up and the loss of supply -/

theorem endStartup_eq (s : State) :
    s.endStartup = { s with
      phase := .running, alt := { s.alt with attn := decide (s.alt.records ≠ []) }, icm := s.icm.atStartupEnd s.now
      skd := { s.skd with awaitRise := s.skd.low }, sst := { s.sst with autosave := 0 } } := by
  have attn : s.alt.withAttn .running = { s.alt with attn := decide (s.alt.records ≠ []) } :=
    congrArg (fun b => { s.alt with attn := b }) (decide_eq_decide.2 (and_iff_right rfl))
  rw [State.endStartup, attn]

theorem exec_powerLoss {s : State} (supplied : s.phase ≠ .off) (tick : Tick) : exec (.powerLoss tick) s = .next s.unpowered := by
  change execPowerLoss tick s = _
  unfold execPowerLoss
  cases phase : s.phase with
  | off => exact absurd phase supplied
  | startup | running => rfl

theorem unpowered_eq (s : State) :
    let u := ({ s with now := 0, clk := ⟨0, 2000000, none⟩, lnk := { s.lnk with lineLow := false } } : State).startedUp .blank
    let left : StoredImage := if s.sst.inFlight.isSome then .bad else s.sst.image
    s.unpowered = { u with
      phase := .off
      trk := u.trk.map fun k => { k with lock := .off }
      icm := { u.icm with icestop := Config.unpoweredLine 0 }
      alt := ⟨[], 1, false, Config.unpoweredLine 1⟩
      sst := ⟨left, none, false, false, match left with | .valid _ => true | .blank | .bad => false, 0⟩ } := by
  have sst : Sst.afterStartUp s.sst.cutShort =
      ⟨s.sst.cutShort, none, false, false, match s.sst.cutShort with | .valid _ => true | .blank | .bad => false, 0⟩ := by
    unfold Sst.afterStartUp
    cases s.sst.cutShort <;> rfl
  rw [State.unpowered, loadedFrom_eq, sst]
  rfl

/-- An event whose instant the state fixes does nothing in a part that does not run, or where no instant is fixed. -/
theorem event_idle {s : State} {due : Option Tick} {fixed : Bool} (same : due.isSome = fixed) (f : State → State)
    (idle : s.phase ≠ .running ∨ fixed = false) :
    (.next (s.atDue due f) : Host.Outcome State Fault Refusal) = .next s := by
  rcases idle with stopped | unfixed
  · refine congrArg _ ?_
    unfold State.atDue
    cases phase : s.phase with
    | running => exact absurd phase stopped
    | off | startup => rfl
  · rw [Option.not_isSome_iff_eq_none.1 (Bool.eq_false_iff.1 (same.trans unfixed)), atDue_none]

theorem deadlineIn_isSome (t : Track) (lock : LockState) :
    (t.deadlineIn lock).isSome = (decide (t.lock = lock) && (t.deadlineFrom.isSome && t.tprev.isSome)) := by
  unfold Track.deadlineIn Track.deadline
  by_cases held : t.lock = lock
  · cases t.deadlineFrom <;> cases t.tprev <;> simp [held]
  · simp [held]

theorem strobeDue_isSome (t : Track) : (t.strobes.bind StrobeRun.due).isSome = t.strobes.any fun r => decide (r.next < r.count) := by
  cases t.strobes with
  | none => rfl
  | some r => by_cases left : r.next < r.count <;> simp [StrobeRun.due, left]

theorem staleAt_isSome (m : Icm) : m.staleAt.isSome = m.ambient.any Ambient.fresh := by
  unfold Icm.staleAt
  cases m.ambient with
  | none => rfl
  | some a => cases fresh : a.fresh <;> simp [fresh]

theorem confirmAt_isSome (m : Icm) : m.confirmAt.isSome = (decide (m.state = .suspect) && m.tConfirm.isSome) := by
  by_cases suspect : m.state = .suspect <;> simp [Icm.confirmAt, suspect]

theorem thawAt_isSome (m : Icm) :
    m.thawAt.isSome = (decide (m.state = .thaw) && (match m.tThaw with | .running _ => true | .stopped | .elapsed => false)) := by
  unfold Icm.thawAt
  by_cases thaw : m.state = .thaw
  · cases m.tThaw <;> simp [thaw, ThawTimer.expiry]
  · simp [thaw]

theorem longLowAt_isSome (k : Skd) : k.longLowAt.isSome = (k.low && k.fellAt.isSome) := by
  unfold Skd.longLowAt
  cases k.low <;> cases k.fellAt <;> rfl

theorem trainEndsAt_isSome (k : Skd) : k.trainEndsAt.isSome = (!k.low && k.train.isSome && k.roseAt.isSome) := by
  unfold Skd.trainEndsAt
  cases k.low <;> cases k.train <;> cases k.roseAt <;> rfl

theorem timeoutAt_isSome (r : Receiver) : r.timeoutAt.isSome = decide (r ≠ .hunting) := by
  cases r <;> simp [Receiver.timeoutAt]

/-- The end of what is not under way lets time go on and does nothing else; without supply it does nothing. -/
theorem end_idle {s : State} {underWay : Bool} {tick : Tick} {f : State → State}
    (nothing : underWay = false → f (s.advance tick) = s.advance tick) :
    (s.phase = .startup ∨ s.phase = .running ∧ underWay = false →
        (.next (s.whileRunning tick f) : Host.Outcome State Fault Refusal) = .next (s.advance tick))
      ∧ (s.phase = .off → (.next (s.whileRunning tick f) : Host.Outcome State Fault Refusal) = .next s) := by
  refine ⟨fun idle => congrArg _ ?_, fun off => congrArg _ (by simp only [State.whileRunning, off])⟩
  rcases idle with startup | ⟨running, none⟩
  · simp only [State.whileRunning, startup]
  · rw [whileRunning_running running, nothing none]

theorem endRunning_idle {s : State} {va : Fin 6} (none : (s.ind.get va).computing.isSome = false) : s.endRunning va = s := by
  rw [State.endRunning, Option.not_isSome_iff_eq_none.1 (Bool.eq_false_iff.1 none)]

theorem replySent_idle {s : State} (none : (s.lnk.sending.isSome && !s.lnk.order.isEmpty) = false) : s.replySent = s := by
  unfold State.replySent
  split
  next sending order => simp [sending, order] at none
  next => rfl

theorem completeInFlight_idle {s : State} (none : s.sst.inFlight.isSome = false) (success : Bool) :
    s.completeInFlight success = s := by
  rw [State.completeInFlight, Option.not_isSome_iff_eq_none.1 (Bool.eq_false_iff.1 none)]

/-- Settles O36: the end of start-up and the loss of supply by their equations, and each event by whether its instant is fixed. -/
theorem startupEndsAndPowerIsLost : Obligations.StartupEndsAndPowerIsLost := by
  intro s tick
  refine ⟨fun startup => ?_, fun other => ?_, fun supplied => ?_, fun off => ?_, fun ch code => ?_, fun va success => ?_⟩
  · change execStartupEnd tick s = _
    simp only [execStartupEnd, startup, endStartup_eq]
    rfl
  · change execStartupEnd tick s = _
    unfold execStartupEnd
    cases phase : s.phase with
    | startup => exact absurd phase other
    | off | running => rfl
  · exact (exec_powerLoss supplied tick).trans (congrArg _ (unpowered_eq s))
  · change execPowerLoss tick s = _
    simp only [execPowerLoss, off]
  · intro k timed due
    simp only [due, List.forall_mem_cons]
    exact ⟨event_idle Option.isSome_map _, event_idle (deadlineIn_isSome k _) _, event_idle (deadlineIn_isSome k _) _,
      event_idle (strobeDue_isSome k) _, event_idle Option.isSome_map _, event_idle Option.isSome_map _,
      event_idle (staleAt_isSome _) _, event_idle rfl _, event_idle (confirmAt_isSome _) _, event_idle (thawAt_isSome _) _,
      event_idle (longLowAt_isSome _) _, event_idle (trainEndsAt_isSome _) _, event_idle rfl _, event_idle (timeoutAt_isSome _) _,
      nofun⟩
  · simp only [List.forall_mem_cons]
    exact ⟨end_idle fun none => endRunning_idle none, end_idle fun none => replySent_idle none,
      end_idle fun none => completeInFlight_idle (s := s.advance tick) none success, nofun⟩

end Sys2Proof.Machine
end

section
set_option Elab.async false
/-! The averager (R42 to R51): how an average moves, and what a close does to one input. -/

namespace Sys2Proof.Machine

/-! ### How an average moves (R47, R48) -/

/-- A step toward `y` by a fraction of the distance, rounded down, stays between the old value and `y`. -/
theorem stepped_between (a y : Int) (k : Nat) :
    min a y ≤ a + (y - a) / (2 ^ k : Nat) ∧ a + (y - a) / (2 ^ k : Nat) ≤ max a y := by
  have positive : (0 : Int) < (2 ^ k : Nat) := Int.natCast_pos.2 (Nat.two_pow_pos k)
  rcases Int.le_total a y with below | above
  · have low := Int.ediv_nonneg (Int.sub_nonneg_of_le below) positive.le
    have high := Int.ediv_le_self (b := (2 ^ k : Nat)) (Int.sub_nonneg_of_le below)
    omega
  · have down : y - a ≤ 0 := Int.sub_nonpos_of_le above
    have low : y - a ≤ (y - a) / (2 ^ k : Nat) := (Int.le_ediv_iff_mul_le positive).2 (by nlinarith)
    have high : (y - a) / (2 ^ k : Nat) ≤ 0 := Int.ediv_nonpos_of_nonpos_of_neg down positive
    omega

/-- An accumulator with a value for it moves; the others stand (R47). -/
theorem averaged_getElem? (k : Nat) (acc values : List Int) (i : Nat) (a x : Int) (old : acc[i]? = some a) (new : values[i]? = some x) :
    (averaged k acc values)[i]? = some (a + sar (256 * x - a) k) := by
  induction acc, values using averaged.induct generalizing i with
  | case1 b bs y ys ih =>
    cases i with
    | zero =>
      obtain rfl : b = a := by simpa using old
      obtain rfl : y = x := by simpa using new
      rfl
    | succ i => exact ih i (by simpa using old) (by simpa using new)
  | case2 bs => simp at new
  | case3 y ys ih => simp at old

/-- An update without a shift fills the record (R48). -/
theorem averaged_filled (acc values : List Int) (i : Nat) (x : Int) (new : values[i]? = some x) :
    (averaged 0 acc values)[i]? = some (256 * x) := by
  induction acc, values using averaged.induct generalizing i with
  | case1 b bs y ys ih =>
    cases i with
    | zero =>
      obtain rfl : y = x := by simpa using new
      simp [averaged, sar]
    | succ i => exact ih i (by simpa using new)
  | case2 bs => simp at new
  | case3 y ys ih =>
    cases i with
    | zero =>
      obtain rfl : y = x := by simpa using new
      rfl
    | succ i => exact ih i (by simpa using new)

theorem updated_same (v : Sav) (values : List Int) :
    v.updated v.samples values =
      { v with acc := averaged v.effectiveShift v.acc values, n := min 65535 (v.n + 1) } := by
  rw [Sav.updated, Sav.forSamples, if_pos rfl]
  rfl

/-- A revolution cut at another N finds the record cleared, and no shift (R48). -/
theorem updated_other {v : Sav} {samples : Nat} (other : samples ≠ v.samples) (values : List Int) :
    v.updated samples values = { v with acc := averaged 0 v.acc values, n := 1, samples := samples } := by
  have shift : min v.settings.k (Nat.log2 (0 + 1)) = 0 := by rw [Nat.zero_add, show Nat.log2 1 = 0 by decide, Nat.min_zero]
  rw [Sav.updated, Sav.forSamples, if_neg other]
  dsimp only
  rw [Sav.effectiveShift, shift]
  rfl

/-! ### The close of one input -/

theorem updated_samples (v : Sav) (samples : Nat) (values : List Int) : (v.updated samples values).samples = samples := by
  by_cases same : samples = v.samples
  · rw [same, updated_same]
  · rw [updated_other same]

/-- The update of a record leaves the counts and the buffer, and is not moved by them. -/
theorem updated_judged (v : Sav) (samples : Nat) (values : List Int) (counts : RevCounts) (run : Nat) (buffer : Option RevBuffer) :
    ({ v with counts := counts, clipRun := run, buffer := buffer } : Sav).updated samples values =
      { v.updated samples values with counts := counts, clipRun := run, buffer := buffer } := by
  by_cases same : samples = v.samples
  · rw [same]
    exact (updated_same { v with counts := counts, clipRun := run, buffer := buffer } values).trans (by rw [updated_same]; rfl)
  · rw [updated_other same, updated_other (v := { v with counts := counts, clipRun := run, buffer := buffer }) same]

theorem copies_eq (v : Sav) (number : Nat) (raw : List Int) :
    v.copies number raw =
      ⟨number, v.samples, v.n, decide (2 ^ v.settings.k ≤ v.n), (v.acc.take v.samples).map (· / 256), raw⟩ := rfl

theorem counted_eq (c : RevCounts) (d : Verdict) :
    c.counted d =
      let count (e : Verdict) (n : Nat) : Nat := if d = e then min 65535 (n + 1) else n
      ⟨count .accepted c.accepted, count .virtual c.virtual, count .unsteady c.unsteady, count .clipped c.clipped,
        count .held c.held⟩ := by
  cases d <;> rfl

theorem clipRunAfter_eq (run clipped : Nat) : clipRunAfter run clipped = if clipped = 0 ∨ 7 ≤ run then 0 else run + 1 :=
  if_congr (or_congr Iff.rfl (by omega)) rfl rfl

theorem started_eq (v : Ind) (c : Copies) (orders : Tab 4 Nat) (now : Tick) :
    v.started c orders now =
      if v.computing = none then { v with computing := some ⟨c, orders, now⟩ }
      else if v.waiting = none then { v with waiting := some c }
      else { v with waiting := some c, dropped := min 65535 (v.dropped + 1) } := by
  unfold Ind.started
  cases v.computing <;> cases v.waiting <;> rfl

/-- The alert list after a close of one input: SENSOR_SATURATED at the eighth clipped revolution in a row (R45). -/
theorem closeAlerts_alt (s : State) (v : Sav) (va : Fin 6) (rev : OpenRev) :
    (s.raiseAll (v.closeAlerts va rev)).alt =
      if 0 < clippedCount rev.id v.buffer ∧ 7 ≤ v.clipRun then
        (s.raise ⟨.sensorSaturated, .warn, .input (.va va), none, some (clippedCount rev.id v.buffer : Int), some 8, .absent⟩).alt
      else s.alt := by
  unfold Sav.closeAlerts saturatedAlert
  by_cases saturated : 0 < clippedCount rev.id v.buffer ∧ 7 ≤ v.clipRun
  · rw [if_pos saturated, if_pos ⟨saturated.1, by omega⟩]
    rfl
  · rw [if_neg saturated, if_neg fun both => saturated ⟨both.1, by omega⟩]
    rfl

/-- Settles O46: the record by `updated_same` and `updated_other`, the close by what `closeInput_eq` judges it on. -/
theorem averageMovesTowardRevolution : Obligations.AverageMovesTowardRevolution := by
  refine ⟨fun v values full room => ?_, fun v values other => ?_, fun s rev number va rising => ?_⟩
  · rw [updated_same]
    refine ⟨rfl, ?_, fun i a x old new => ⟨_, averaged_getElem? _ _ _ i a x old new, rfl, stepped_between ..⟩⟩
    exact (averaged_length ..).trans (by omega)
  · rw [updated_other other]
    exact ⟨rfl, rfl, fun i x new => averaged_filled _ _ i x new⟩
  · intro v gathered slots verdict counted judged alt raw w copies i
    have slots_eq : completed rev.samples rev.id v.buffer = slots := completed_eq_closedSlots _ _ _ rising
    have clipped : clippedCount rev.id v.buffer = gathered.clipped := clippedCount_eq ..
    have verdict_eq : v.verdictOn rev = verdict := by
      rw [Sav.verdictOn, slots_eq, clipped, heldCount_eq]
      rfl
    have values : v.valuesOf rev = raw := by rw [Sav.valuesOf, slots_eq]
    have judged_eq : v.judgedOn rev = judged v := by
      rw [Sav.judgedOn, counted_eq, clipRunAfter_eq, verdict_eq, clipped]
    have t_alt : ((s.setSav va (judged v)).raiseAll (v.closeAlerts va rev)).alt = alt := by
      have alike : StampsAlike (s.setSav va (judged v)) s := ⟨rfl, rfl, rfl, rfl, rfl⟩
      rw [(alike.raiseAll _).alt, closeAlerts_alt, clipped]
    have t_eq : (s.setSav va (judged v)).raiseAll (v.closeAlerts va rev) = { s with sav := s.sav.set va (judged v), alt := alt } := by
      rw [raiseAll_eq, t_alt]
      rfl
    have update : (judged v).updated rev.samples raw = judged w := updated_judged ..
    have settings : w.settings = v.settings := updated_settings ..
    have handed : (judged w).copies number raw = copies := by
      rw [copies_eq, show (judged w).samples = rev.samples from updated_samples v rev.samples raw, show (judged w).settings = v.settings from settings]
    rw [closeInput_eq]
    dsimp only
    rw [verdict_eq, judged_eq, values, t_eq, update, handed]
    by_cases accepted : verdict = .accepted
    · rw [if_pos accepted, if_pos accepted]
      let u := State.setSav { s with sav := s.sav.set va (judged v), alt := alt } va (judged w)
      have u_eq : u = { s with sav := s.sav.set va (judged w), alt := alt } := by
        change { s with sav := (s.sav.set va (judged v)).set va (judged w), alt := alt } = _
        rw [Tab.set_set]
      have orders : (u.sav.get va).settings.orders = v.settings.orders := by
        rw [u_eq, Tab.get_set_self, show (judged w).settings = v.settings from settings]
      change State.setInd u va ((u.ind.get va).started copies (u.sav.get va).settings.orders u.now) = _
      rw [orders, started_eq, u_eq]
      rfl
    · rw [if_neg accepted, if_neg accepted]

end Sys2Proof.Machine
end

section
set_option Elab.async false
/-! The eight indicators (R88 to R91) and the level state machine (R94 to R96): their formulas as the statements give them. -/

namespace Sys2Proof.Machine

/-! ### The order tables and the amplitude (R88, R91) -/

theorem sine_half (j : Nat) : sine (j + 128) = -sine j := by
  unfold sine
  by_cases first : j % 256 < 128
  · rw [if_pos first, if_neg (by omega), show (j + 128) % 256 - 128 = j % 256 by omega]
  · rw [if_neg first, if_pos (by omega), show (j + 128) % 256 = j % 256 - 128 by omega, Int.neg_neg]

theorem sineHalf_bounds (k : Nat) : 0 ≤ sineHalf k ∧ sineHalf k ≤ 16384 := by
  have quarter : ∀ x ∈ sineQuarter, 0 ≤ x ∧ x ≤ 16384 := by decide
  rw [sineHalf, List.getD_eq_getElem?_getD]
  cases entry : sineQuarter[if k ≤ 64 then k else 128 - k]? with
  | none => decide
  | some x => exact quarter x (List.mem_of_getElem? entry)

theorem sine_bounds (j : Nat) : -16384 ≤ sine j ∧ sine j ≤ 16384 := by
  unfold sine
  have first := sineHalf_bounds (j % 256)
  have second := sineHalf_bounds (j % 256 - 128)
  split <;> omega

theorem sine_mirrored (j : Nat) : sine (64 + j % 65) = sine (64 - j % 65) := by
  have table : ∀ k : Fin 65, sine (64 + k.val) = sine (64 - k.val) := by decide
  exact table ⟨j % 65, Nat.mod_lt _ (by decide)⟩

/-- The sum over the slots from `start` on, slot by slot (R61, R91). -/
theorem orderSum_eq (table : Nat → Int) (m samples start : Nat) (values : List Int) :
    orderSum table m samples start values = (values.mapIdx fun i a => a * table (orderIndex m (start + i) samples)).sum := by
  induction values generalizing start with
  | nil => rfl
  | cons v vs ih =>
    rw [orderSum, ih, List.mapIdx_cons, List.sum_cons]
    simp only [Nat.add_zero, Nat.add_assoc, Nat.add_comm 1]

theorem orderAmplitude_root (m samples : Nat) (values : List Int) :
    let index (i : Nat) : Nat := m * i * (256 / samples) % 256
    let re : Int := (values.mapIdx fun i a => a * cosine (index i)).sum
    let im : Int := (values.mapIdx fun i a => a * sine (index i)).sum
    ∃ root, IsRoot root (re * re + im * im).toNat ∧ orderAmplitude m samples values = root / (samples * 8192) := by
  have sums (table : Nat → Int) : orderSum table m samples 0 values =
      (values.mapIdx fun i a => a * table (m * i * (256 / samples) % 256)).sum := by
    rw [orderSum_eq]
    simp only [Nat.zero_add]
    rfl
  refine ⟨_, isqrt_spec _, ?_⟩
  rw [orderAmplitude, sums cosine, sums sine]

/-! ### The eight indicators (R89 to R91) -/

theorem rootMeanSquare_isRoot (samples : Nat) (values : List Int) :
    IsRoot (rootMeanSquare samples values) ((values.map fun a => (a * a).toNat).sum / samples) := by
  have squares : (fun v : Int => v.natAbs * v.natAbs) = fun a => (a * a).toNat := by
    funext v
    rw [← Int.natAbs_mul_self, Int.toNat_natCast]
  rw [rootMeanSquare, squares]
  exact isqrt_spec _

theorem foldl_max_natAbs (values : List Int) (start : Nat) :
    let top := values.foldl (fun m v => max m v.natAbs) start
    start ≤ top ∧ (∀ a ∈ values, a.natAbs ≤ top) ∧ (top = start ∨ ∃ a ∈ values, a.natAbs = top) := by
  induction values generalizing start with
  | nil => simp
  | cons v vs ih =>
    obtain ⟨above, bounds, reached⟩ := ih (max start v.natAbs)
    refine ⟨le_trans (le_max_left ..) above, fun a mem => ?_, ?_⟩
    · rcases List.mem_cons.1 mem with rfl | mem
      · exact le_trans (le_max_right ..) above
      · exact bounds a mem
    · rcases reached with same | ⟨a, mem, reached⟩
      · rcases Nat.le_total v.natAbs start with low | high
        · exact .inl (same.trans (max_eq_left low))
        · exact .inr ⟨v, List.mem_cons_self, (same.trans (max_eq_right high)).symm⟩
      · exact .inr ⟨a, List.mem_cons_of_mem v mem, reached⟩

theorem indicatorValues_first (c : Copies) (orders : Tab 4 Nat) :
    (indicatorValues c orders).get 0 = .value (rootMeanSquare c.samples c.avg)
      ∧ (indicatorValues c orders).get 1 = .value (peak c.avg)
      ∧ (indicatorValues c orders).get 2 = .value (crest (peak c.avg) (rootMeanSquare c.samples c.avg))
      ∧ (indicatorValues c orders).get 3 = .value (rootMeanSquare c.samples c.raw) :=
  ⟨rfl, rfl, rfl, rfl⟩

/-- Indices 4 to 7 carry the watched orders (R91). -/
theorem indicatorValues_order {c : Copies} {orders : Tab 4 Nat} {i : Fin 8} {m : Nat} (watched : orderAt orders i = some m) :
    (indicatorValues c orders).get i = orderIndicator c.samples c.avg m := by
  unfold orderAt at watched
  split at watched
  next high =>
    have order : orders.get ⟨i.val - 4, Nat.sub_lt_left_of_lt_add high i.isLt⟩ = m := by simpa using watched
    rw [← order]
    simp only [indicatorValues, Tab.get]
    rw [List.getElem_append_right (by simpa using high)]
    simp
  next => cases watched

/-! ### The level state machine (R94 to R96) -/

theorem partOf_none {t : IndicatorSet} {orders : Tab 4 Nat} {i : Fin 8}
    (not : t.warm = false ∨ t.values.get i = .unused ∨ t.values.get i = .absent ∨ orderAt t.orders i ≠ orderAt orders i) :
    t.partOf orders i = none := by
  unfold IndicatorSet.partOf
  rcases not with coldSet | unused | absent | differs
  · split <;> simp [coldSet]
  · rw [unused]
  · rw [absent]
  · split <;> simp [differs]

theorem partOf_some {t : IndicatorSet} {orders : Tab 4 Nat} {i : Fin 8} {x : Nat} (warm : t.warm = true)
    (value : t.values.get i = .value x) (same : orderAt t.orders i = orderAt orders i) : t.partOf orders i = some x := by
  simp [IndicatorSet.partOf, value, warm, same]

theorem evaluatedLevels_get (t : IndicatorSet) (orders : Tab 4 Nat) (row : Row) (levels : Tab 8 LevelState) (i : Fin 8) :
    (evaluatedLevels t orders row levels).get i =
      match t.partOf orders i with
      | some v => (levels.get i).evaluated (row.levels.get i) row.persistence v
      | none => levels.get i :=
  Tab.get_ofFn ..

theorem evaluatedLevels_stands {t : IndicatorSet} {orders : Tab 4 Nat} {i : Fin 8} (none : t.partOf orders i = none) (row : Row)
    (levels : Tab 8 LevelState) : (evaluatedLevels t orders row levels).get i = levels.get i := by
  rw [evaluatedLevels_get, none]

theorem evaluatedLevels_moves {t : IndicatorSet} {orders : Tab 4 Nat} {i : Fin 8} {x : Nat} (part : t.partOf orders i = some x)
    (row : Row) (levels : Tab 8 LevelState) :
    (evaluatedLevels t orders row levels).get i = (levels.get i).evaluated (row.levels.get i) row.persistence x := by
  rw [evaluatedLevels_get, part]

/-- A level state by its own level (R95, R96). -/
theorem evaluated_eq (l : LevelState) (pair : LevelPair) (persistence x : Nat) :
    let target : Level :=
      if pair.alarm ≠ 0 ∧ pair.alarm ≤ x then .alarm else if pair.warn ≠ 0 ∧ pair.warn ≤ x then .warn else .normal
    let falls (threshold : Nat) (below : Level) : LevelState :=
      if threshold = 0 then ⟨below, 0, 0⟩
      else if 7 * threshold / 8 ≤ x then ⟨l.level, 0, 0⟩
      else if l.fall + 1 = persistence then ⟨below, 0, 0⟩
      else ⟨l.level, 0, l.fall + 1⟩
    l.evaluated pair persistence x =
      if l.level.rank < target.rank then
        if l.rise + 1 = persistence then ⟨target, 0, 0⟩ else ⟨l.level, l.rise + 1, 0⟩
      else
        match l.level with
        | .normal => ⟨.normal, 0, 0⟩
        | .warn => falls pair.warn .normal
        | .alarm => falls pair.alarm .warn := by
  intro target falls
  have down (threshold : Nat) (below : Level) :
      (if threshold = 0 then ⟨below, 0, 0⟩
        else if x < 7 * threshold / 8 then
          if l.fall + 1 = persistence then ⟨below, 0, 0⟩ else ⟨l.level, 0, l.fall + 1⟩
        else ⟨l.level, 0, 0⟩ : LevelState) = falls threshold below := by
    by_cases reached : 7 * threshold / 8 ≤ x
    · simp only [falls, if_pos reached, if_neg (Nat.not_lt.2 reached)]
    · simp only [falls, if_neg reached, if_pos (Nat.not_le.1 reached)]
  rw [LevelState.evaluated, show targetLevel pair x = target from rfl]
  refine if_congr Iff.rfl rfl ?_
  cases level : l.level with
  | normal => rfl
  | warn =>
    have falling := down pair.warn .normal
    rw [level] at falling
    exact (if_neg (by decide)).trans falling
  | alarm =>
    have falling := down pair.alarm .warn
    rw [level] at falling
    exact (if_neg (by decide)).trans falling

end Sys2Proof.Machine
end

section
set_option Elab.async false
/-! The end of a computation (R92 to R105): the changes of level and what they report, the damage weight, and the hand-off of order 1. -/

namespace Sys2Proof.Machine

/-! ### The changes of level and their alerts (R99 to R103) -/

theorem rank_injective {a b : Level} (same : a.rank = b.rank) : a = b := by
  cases a <;> cases b <;> simp [Level.rank] at same ⊢

/-- A change of one index, judged on its value whether or not it takes part: one that takes no part keeps its level. -/
theorem levelChange_eq (t : IndicatorSet) (orders : Tab 4 Nat) (row : Row) (levels : Tab 8 LevelState) (i : Fin 8) :
    let before := (levels.get i).level
    let after := ((evaluatedLevels t orders row levels).get i).level
    levelChange t orders row levels (evaluatedLevels t orders row levels) i =
      match t.values.get i with
      | .value x =>
        if before = after then none
        else some ⟨i, after, decide (before.rank < after.rank), x,
          levelThreshold (row.levels.get i) (if before.rank < after.rank then after else before)⟩
      | .unused | .absent => none := by
  intro before after
  unfold levelChange
  cases part : t.partOf orders i with
  | none =>
    have stands : before = after := congrArg LevelState.level (evaluatedLevels_stands part row levels).symm
    dsimp only
    split
    next => rw [if_pos stands]
    next => rfl
    next => rfl
  | some x =>
    have value : t.values.get i = .value x := by
      unfold IndicatorSet.partOf at part
      split at part
      next y value =>
        split at part
        next => rw [value, Option.some.inj part]
        next => cases part
      next => cases part
      next => cases part
    rw [value]
    dsimp only
    by_cases same : before = after
    · rw [if_pos same, if_pos same]
    · rw [if_neg same, if_neg same]
      by_cases rises : before.rank < after.rank
      · simp only [if_pos rises, decide_eq_true rises]
        exact if_pos rises
      · simp only [if_neg rises, decide_eq_false rises]
        exact if_neg rises

theorem reclassified_iff (s : State) (va : Fin 6) (i : Fin 8) :
    s.reclassified va i = true ↔
      s.icm.state ∈ [.suspect, .iced, .thaw] ∧ s.icm.settings.iceInput = va
        ∧ orderAt (s.sav.get va).settings.orders i = some 1 := by
  have classes : s.icm.state.reclassifies = true ↔ s.icm.state ∈ [IcingState.suspect, .iced, .thaw] := by
    cases s.icm.state <;> decide
  unfold State.reclassified
  rw [decide_eq_true_iff, classes]

theorem wantsSnapshot_iff (s : State) (va : Fin 6) (c : LevelChange) :
    s.wantsSnapshot va c = true ↔
      s.skd.mode = .normal ∧ c.rise = true ∧ c.level = .alarm ∧ ¬s.reclassified va c.index = true := by
  unfold State.wantsSnapshot
  rw [decide_eq_true_iff]

/-! ### The damage weight (R104) -/

theorem foldl_highest (leftOut : Fin 8 → Bool) (levels : Tab 8 LevelState) (l : List (Fin 8)) (start : Level) :
    let top := l.foldl (fun m i => if leftOut i then m else m.max (levels.get i).level) start
    (top = .alarm ↔ start = .alarm ∨ ∃ i ∈ l, (levels.get i).level = .alarm ∧ ¬leftOut i = true)
      ∧ (top = .normal ↔ start = .normal ∧ ∀ i ∈ l, (levels.get i).level = .normal ∨ leftOut i = true) := by
  induction l generalizing start with
  | nil => simp
  | cons i l ih =>
    obtain ⟨alarm, normal⟩ := ih (if leftOut i then start else start.max (levels.get i).level)
    have maxAlarm (a b : Level) : a.max b = .alarm ↔ a = .alarm ∨ b = .alarm := by cases a <;> cases b <;> decide
    have maxNormal (a b : Level) : a.max b = .normal ↔ a = .normal ∧ b = .normal := by cases a <;> cases b <;> decide
    intro top
    refine ⟨alarm.trans ?_, normal.trans ?_⟩
    · cases out : leftOut i <;> simp [out, maxAlarm, or_assoc]
    · cases out : leftOut i <;> simp [out, maxNormal, and_assoc]

theorem mem_allIndices (i : Fin 8) : i ∈ allIndices := by
  revert i; decide

theorem highestLevel_weight (leftOut : Fin 8 → Bool) (levels : Tab 8 LevelState) :
    (highestLevel leftOut levels).weight =
      if ∃ i, (levels.get i).level = .alarm ∧ ¬leftOut i = true then 8
      else if ∃ i, (levels.get i).level = .warn ∧ ¬leftOut i = true then 1
      else 0 := by
  obtain ⟨alarm, normal⟩ := foldl_highest leftOut levels allIndices .normal
  change (highestLevel leftOut levels = _ ↔ _) at alarm
  change (highestLevel leftOut levels = _ ↔ _) at normal
  simp only [reduceCtorEq, false_or, mem_allIndices, true_and, forall_const] at alarm normal
  by_cases anAlarm : ∃ i, (levels.get i).level = .alarm ∧ ¬leftOut i = true
  · rw [if_pos anAlarm, alarm.2 anAlarm]
    rfl
  · rw [if_neg anAlarm]
    by_cases aWarn : ∃ i, (levels.get i).level = .warn ∧ ¬leftOut i = true
    · rw [if_pos aWarn]
      obtain ⟨i, warns, counted⟩ := aWarn
      cases top : highestLevel leftOut levels with
      | warn => rfl
      | alarm => exact absurd (alarm.1 top) anAlarm
      | normal =>
        rcases normal.1 top i with low | out
        · rw [warns] at low; cases low
        · exact absurd out counted
    · rw [if_neg aWarn, normal.2 fun i => ?_]
      · rfl
      · by_cases out : leftOut i = true
        · exact .inr out
        · cases level : (levels.get i).level with
          | normal => exact .inl rfl
          | warn => exact absurd ⟨i, level, out⟩ aWarn
          | alarm => exact absurd ⟨i, level, out⟩ anAlarm

/-! ### The hand-off of order 1 (R105) -/

theorem mem_list_iff_orderAt (orders : Tab 4 Nat) (m : Nat) : m ∈ orders.list ↔ ∃ i, orderAt orders i = some m := by
  have entries : m ∈ orders.list ↔ ∃ k, orders.get k = m := by simpa using not_congr (Tab.forall_mem_iff orders (· ≠ m))
  rw [entries]
  constructor
  · rintro ⟨k, rfl⟩
    exact ⟨⟨k.val + 4, by omega⟩, by simp [orderAt]⟩
  · rintro ⟨i, watched⟩
    unfold orderAt at watched
    split at watched
    next => exact ⟨_, Option.some.inj watched⟩
    next => cases watched

theorem findSome?_const {α β : Type} (l : List α) (P : α → Prop) [DecidablePred P] (v : β) :
    l.findSome? (fun i => if P i then some v else none) = if ∃ i ∈ l, P i then some v else none := by
  induction l with
  | nil => simp
  | cons a l ih => by_cases found : P a <;> simp [found, ih]

/-- The value an index hands off: that of order 1, when it watches it. -/
def IndicatorSet.order1At (t : IndicatorSet) (i : Fin 8) : Option Nat :=
  if orderAt t.orders i = some 1 then
    match t.values.get i with
    | .value v => some v
    | .unused | .absent => none
  else none

theorem order1_eq_findSome (t : IndicatorSet) : t.order1 = allIndices.findSome? t.order1At := by
  refine congrArg (List.findSome? · allIndices) (funext fun i => ?_)
  unfold IndicatorSet.order1At
  split
  next v order value => rw [if_pos order, value]
  next other =>
    by_cases order : orderAt t.orders i = some 1
    · rw [if_pos order]
      cases value : t.values.get i with
      | value v => exact absurd value (other v order)
      | unused | absent => rfl
    · rw [if_neg order]

/-- The value of order 1 in the set of a computation, when it was watched and is below N / 2 (R91, R105). -/
theorem order1_eq (c : Computation) :
    c.result.order1 =
      if 1 ∈ c.orders.list ∧ 1 < c.copies.samples / 2 then
        some (min 32768 (orderAmplitude 1 c.copies.samples c.copies.avg))
      else none := by
  have orders : c.result.orders = c.orders := rfl
  have each (i : Fin 8) : c.result.order1At i =
      if orderAt c.orders i = some 1 ∧ 1 < c.copies.samples / 2 then
        some (min 32768 (orderAmplitude 1 c.copies.samples c.copies.avg))
      else none := by
    rw [IndicatorSet.order1At, orders]
    by_cases watched : orderAt c.orders i = some 1
    · have value : c.result.values.get i = orderIndicator c.copies.samples c.copies.avg 1 := indicatorValues_order watched
      rw [if_pos watched, value, orderIndicator, if_neg (by decide)]
      by_cases below : 1 < c.copies.samples / 2
      · rw [if_neg (Nat.not_le.2 below), if_pos ⟨watched, below⟩]
      · rw [if_pos (Nat.not_lt.1 below), if_neg fun both => below both.2]
    · rw [if_neg watched, if_neg fun both => watched both.1]
  have watches : (∃ i ∈ allIndices, orderAt c.orders i = some 1 ∧ 1 < c.copies.samples / 2)
      ↔ 1 ∈ c.orders.list ∧ 1 < c.copies.samples / 2 := by
    rw [mem_list_iff_orderAt]
    simp [mem_allIndices]
  rw [order1_eq_findSome, funext each, findSome?_const]
  simp only [watches]

theorem gatherO1_eq (s : State) (va : Fin 6) (v : Nat) (owner : Option Channel) :
    s.gatherO1 va v owner = { s with
      icm := { s.icm with
        gathered := if s.icm.settings.iceInput = va ∧ s.skd.mode ≠ .test then some ⟨v, owner⟩ else s.icm.gathered } } := by
  unfold State.gatherO1
  by_cases taken : va = s.icm.settings.iceInput ∧ s.skd.mode ≠ .test
  · rw [if_pos taken, if_pos ⟨taken.1.symm, taken.2⟩]
  · rw [if_neg taken, if_neg fun both => taken ⟨both.1.symm, both.2⟩]

/-- The hand-off of a set to the icing monitor (R105, R116). -/
theorem handOrder1_eq (s : State) (va : Fin 6) (c : Computation) :
    s.handOrder1 va c.result = { s with
      icm := { s.icm with
        gathered :=
          if c.result.warm = true ∧ s.icm.settings.iceInput = va ∧ s.skd.mode ≠ .test ∧ 1 ∈ c.orders.list
              ∧ 1 < c.copies.samples / 2 then
            some ⟨min 32768 (orderAmplitude 1 c.copies.samples c.copies.avg), (s.sav.get va).owner⟩
          else s.icm.gathered } } := by
  unfold State.handOrder1
  rw [order1_eq]
  by_cases watched : 1 ∈ c.orders.list ∧ 1 < c.copies.samples / 2
  · rw [if_pos watched]
    dsimp only
    by_cases handed : c.result.warm = true ∧ va = s.icm.settings.iceInput
    · rw [if_pos handed, gatherO1_eq]
      simp only [handed.1, watched, true_and, and_true, and_self]
    · have not : ¬(c.result.warm = true ∧ s.icm.settings.iceInput = va ∧ s.skd.mode ≠ .test ∧ 1 ∈ c.orders.list
          ∧ 1 < c.copies.samples / 2) := fun ⟨warm, ice, _⟩ => handed ⟨warm, ice.symm⟩
      rw [if_neg not, if_neg handed]
  · have not : ¬(c.result.warm = true ∧ s.icm.settings.iceInput = va ∧ s.skd.mode ≠ .test ∧ 1 ∈ c.orders.list
        ∧ 1 < c.copies.samples / 2) := fun ⟨_, _, _, watches⟩ => watched watches
    rw [if_neg watched, if_neg not]

end Sys2Proof.Machine
end

section
set_option Elab.async false
/-! The end of a computation as one event (R101). -/

namespace Sys2Proof.Machine

/-! ### The changes of an evaluation -/

section
variable (s : State) (va : Fin 6) (t : IndicatorSet) (orders : Tab 4 Nat) (row : Row) (levels : Tab 8 LevelState)

/-- The change of an index, when its level changes: what `levelChange` gives (R99). -/
def changeOf (i : Fin 8) (x : Nat) : LevelChange :=
  let before := (levels.get i).level
  let after := ((evaluatedLevels t orders row levels).get i).level
  ⟨i, after, decide (before.rank < after.rank), x,
    levelThreshold (row.levels.get i) (if before.rank < after.rank then after else before)⟩

variable {s va t orders row levels}

theorem mem_levelChanges {c : LevelChange} :
    c ∈ levelChanges t orders row levels ↔
      ∃ i x, t.values.get i = .value x ∧ (levels.get i).level ≠ ((evaluatedLevels t orders row levels).get i).level
        ∧ c = changeOf t orders row levels i x := by
  unfold levelChanges
  rw [List.mem_filterMap]
  constructor
  · rintro ⟨i, -, change⟩
    rw [levelChange_eq] at change
    cases value : t.values.get i with
    | value x =>
      rw [value] at change
      dsimp only at change
      split at change
      next => cases change
      next differs => exact ⟨i, x, value, differs, (Option.some.inj change).symm⟩
    | unused | absent => rw [value] at change; cases change
  · rintro ⟨i, x, value, differs, rfl⟩
    refine ⟨i, mem_allIndices i, ?_⟩
    rw [levelChange_eq, value]
    exact if_neg differs

/-- An index whose level changes has a value: it takes part in the evaluation. -/
theorem value_of_change {i : Fin 8} (differs : (levels.get i).level ≠ ((evaluatedLevels t orders row levels).get i).level) :
    ∃ x, t.values.get i = .value x := by
  cases value : t.values.get i with
  | value x => exact ⟨x, rfl⟩
  | unused => exact absurd (congrArg LevelState.level (evaluatedLevels_stands (partOf_none (.inr (.inl value))) row levels).symm) differs
  | absent =>
    exact absurd (congrArg LevelState.level (evaluatedLevels_stands (partOf_none (.inr (.inr (.inl value)))) row levels).symm) differs

variable (s va t orders row levels) in
/-- A rise of an index to ALARM that asks for a snapshot (R100, R102, R103). -/
def Asks (i : Fin 8) : Prop :=
  s.skd.mode = .normal ∧ (levels.get i).level ≠ .alarm ∧ ((evaluatedLevels t orders row levels).get i).level = .alarm
    ∧ ¬s.reclassified va i = true

theorem wantsSnapshot_changeOf (i : Fin 8) (x : Nat) :
    s.wantsSnapshot va (changeOf t orders row levels i x) = true ↔ Asks s va t orders row levels i := by
  rw [wantsSnapshot_iff]
  unfold Asks changeOf
  dsimp only
  rw [decide_eq_true_iff]
  refine and_congr_right fun _ => ?_
  rw [← and_assoc, ← and_assoc]
  refine and_congr_left fun _ => and_congr_left fun alarm => ?_
  rw [alarm]
  cases (levels.get i).level <;> decide

theorem wanted_iff :
    (levelChanges t orders row levels).any (s.wantsSnapshot va) = true ↔ ∃ i, Asks s va t orders row levels i := by
  rw [List.any_eq_true]
  constructor
  · rintro ⟨c, mem, wants⟩
    obtain ⟨i, x, -, -, rfl⟩ := mem_levelChanges.1 mem
    exact ⟨i, (wantsSnapshot_changeOf i x).1 wants⟩
  · rintro ⟨i, asks⟩
    obtain ⟨-, notYet, alarm, -⟩ := id asks
    have differs : (levels.get i).level ≠ ((evaluatedLevels t orders row levels).get i).level := fun same =>
      notYet (same.trans alarm)
    obtain ⟨x, value⟩ := value_of_change differs
    exact ⟨_, mem_levelChanges.2 ⟨i, x, value, differs, rfl⟩, (wantsSnapshot_changeOf i x).2 asks⟩

/-- The alerts of an evaluation, index by index (R99, R101). -/
theorem changeAlerts_eq (snap : SnapField) :
    (levelChanges t orders row levels).map (s.changeAlert va snap) =
      allIndices.filterMap fun i =>
        match t.values.get i with
        | .value x =>
          if (levels.get i).level = ((evaluatedLevels t orders row levels).get i).level then none
          else some (s.changeAlert va snap (changeOf t orders row levels i x))
        | .unused | .absent => none := by
  rw [levelChanges, List.map_filterMap]
  refine List.filterMap_congr fun i _ => ?_
  rw [levelChange_eq]
  cases t.values.get i with
  | value x =>
    dsimp only
    by_cases same : (levels.get i).level = ((evaluatedLevels t orders row levels).get i).level
    · rw [if_pos same, if_pos same]
      rfl
    · rw [if_neg same, if_neg same]
      rfl
  | unused | absent => rfl

end

/-! ### The end of a computation -/

theorem onInput_iff (va : Fin 6) (it : Item) : onInput va it = true ↔ it.basis = .damage ∧ it.source = .va va := decide_eq_true_iff

theorem accrue_none (s : State) (concerns : Item → Bool) : s.accrue concerns 0 = s := if_pos rfl

/-- Settles O47: the set by its formulas, the levels index by index, and then what follows from the changes. -/
theorem computationEndReplacesSet : Obligations.ComputationEndReplacesSet := by
  refine ⟨orderAmplitude_root, by decide, fun j => ⟨rfl, sine_half j, sine_mirrored j, (sine_bounds j).1, (sine_bounds j).2⟩, ?_⟩
  intro s va tick c v orders set row levels now squares running computing
  let s1 := (s.advance tick).setInd va (v.finished set levels orders now)
  let changes := levelChanges set orders row v.levels
  let s2 := if changes.any (s.wantsSnapshot va) then s1.takeSnapshot (s.copiesSnapshot va c.copies) else s1
  let s3 := s2.raiseAll (changes.map (s.changeAlert va s.sns.offer))
  let s4 := s3.accrue (onInput va) (s.damageWeight va set levels)
  have ends : exec (.indicatorComputationEnd va tick) s = .next (s4.handOrder1 va set) := by
    have event : exec (.indicatorComputationEnd va tick) s = .next (s.whileRunning tick (State.endRunning va)) := rfl
    rw [event, whileRunning_running running, State.endRunning, State.advance_ind, show (s.ind.get va).computing = some c from computing]
    rfl
  have s2_eq : s2 = { s1 with sns := s2.sns } := by
    change (if _ then _ else _ : State) = { s1 with sns := (if _ then _ else _ : State).sns }
    split <;> rfl
  have s3_eq : s3 = { s2 with alt := s3.alt } := raiseAll_eq s2 _
  have s4_eq : s4 = { s3 with msc := s4.msc, alt := s4.alt } := accrue_onlyItems s3 _ _
  have s4_sns : s4.sns = s2.sns := (congrArg State.sns s4_eq :).trans (congrArg State.sns s3_eq :)
  have whole : s4 = { s1 with sns := s4.sns, msc := s4.msc, alt := s4.alt } := by
    rw [s4_sns]
    refine s4_eq.trans ((congrArg (fun x : State => { x with msc := s4.msc, alt := s4.alt }) s3_eq).trans ?_)
    exact (congrArg (fun x : State => { x with msc := s4.msc, alt := s4.alt }) s2_eq :)
  let g := (s4.handOrder1 va set).icm.gathered
  have handed : s4.handOrder1 va set = { s4 with icm := { s4.icm with gathered := g } } := by
    change _ = { s4 with icm := { s4.icm with gathered := (s4.handOrder1 va set).icm.gathered } }
    rw [handOrder1_eq]
  have g_eq : g =
      if set.warm = true ∧ s4.icm.settings.iceInput = va ∧ s4.skd.mode ≠ .test ∧ 1 ∈ c.orders.list ∧ 1 < c.copies.samples / 2 then
        some ⟨min 32768 (orderAmplitude 1 c.copies.samples c.copies.avg), (s4.sav.get va).owner⟩
      else s4.icm.gathered :=
    congrArg (fun x : State => x.icm.gathered) (handOrder1_eq s4 va c)
  rw [show s4.icm = s.icm from (congrArg State.icm whole :), show s4.skd = s.skd from (congrArg State.skd whole :),
    show s4.sav = s.sav from (congrArg State.sav whole :)] at g_eq
  refine ⟨_, ends.trans (congrArg _ handed), ?_, rfl, ⟨_, _, _, rfl, rootMeanSquare_isRoot .., rfl, ?_, ?_, rfl, rfl, rootMeanSquare_isRoot ..⟩,
    fun i m watched => indicatorValues_order watched, fun i not => ?_, fun i x warm value same => ?_, ?_⟩
  · exact (congrArg (fun x : State => { x with icm := { x.icm with gathered := g } }) whole :)
  · exact (foldl_max_natAbs c.copies.avg 0).2.1
  · exact (foldl_max_natAbs c.copies.avg 0).2.2
  · rw [evaluatedLevels_stands (partOf_none not)]
  · exact (evaluatedLevels_moves (partOf_some warm value same) _ _).trans (evaluated_eq _ _ _ _)
  · intro before after iced asks room of alert u counts weight w
    have iced_iff (i : Fin 8) : s.reclassified va i = true ↔ iced i := reclassified_iff s va i
    have asks_iff (i : Fin 8) : Asks s va set orders row v.levels i ↔ asks i := by
      unfold Asks
      rw [iced_iff]
    have alert_eq (i : Fin 8) (x : Nat) : s.changeAlert va s.sns.offer (changeOf set orders row v.levels i x) = alert i x := by
      have kind : (if s.reclassified va i = true then AlertKind.iceImbalance else .vibLevel) =
          if iced i then .iceImbalance else .vibLevel := if_congr (iced_iff i) rfl rfl
      have severity : (if s.reclassified va i = true ∨ s.skd.mode ≠ .normal then .note else (after i).severity) =
          if iced i ∨ s.skd.mode ≠ .normal then Severity.note
          else match after i with | .normal => .note | .warn => .warn | .alarm => .alarm :=
        if_congr (or_congr (iced_iff i) Iff.rfl) rfl (by cases after i <;> rfl)
      have threshold (l : Level) : levelThreshold (row.levels.get i) l = of i l := by cases l <;> rfl
      have snapshot : (if s.wantsSnapshot va (changeOf set orders row v.levels i x) = true then s.sns.offer else .absent) =
          if asks i then (if room then .number s.sns.nextNumber else .noSnapshot) else .absent :=
        if_congr ((wantsSnapshot_changeOf i x).trans (asks_iff i)) (offer_eq s.sns) rfl
      exact (Alert.mk.injEq ..).mpr ⟨kind, severity, rfl, rfl, rfl, congrArg (fun n : Nat => some (n : Int)) (threshold _), snapshot⟩
    have alerts : changes.map (s.changeAlert va s.sns.offer) = ([0, 1, 2, 3, 4, 5, 6, 7] : List (Fin 8)).filterMap fun i =>
        match set.values.get i with
        | .value x => if before i = after i then none else some (alert i x)
        | .unused | .absent => none := by
      rw [changeAlerts_eq]
      simp only [alert_eq]
      rfl
    have weight_eq : s.damageWeight va set levels = weight := by
      change (if set.warm = true ∧ s.skd.mode = .normal then (highestLevel (s.reclassified va) levels).weight else 0) = _
      by_cases judged : counts
      · rw [if_pos judged, highestLevel_weight]
        simp only [iced_iff, weight, judged, true_and]
        rfl
      · rw [if_neg judged]
        simp only [weight, judged, false_and, if_false]
    have s2_sns : s2.sns =
        if (∃ i, asks i) ∧ room then
          ⟨s.sns.stack ++
              [⟨s.sns.nextNumber, s.clk.deviceSeconds, s.clk.farm, false, false,
                .tsa va c.copies.avg c.copies.n c.copies.samples (s.ownerSpeed (s.sav.get va).owner) s.rgc.regime⟩],
            s.sns.nextNumber + 1⟩
        else s.sns := by
      have any_iff : changes.any (s.wantsSnapshot va) = true ↔ ∃ i, asks i := wanted_iff.trans (exists_congr asks_iff)
      by_cases wanted : ∃ i, asks i
      · have normal : s.skd.mode = .normal := wanted.elim fun _ asked => asked.1
        have stamped : s1.stampSnapshot (s.copiesSnapshot va c.copies) =
            ⟨s.sns.nextNumber, s.clk.deviceSeconds, s.clk.farm, false, false,
              .tsa va c.copies.avg c.copies.n c.copies.samples (s.ownerSpeed (s.sav.get va).owner) s.rgc.regime⟩ := by
          rw [State.stampSnapshot, show s1.skd.mode = .normal from normal]
          rfl
        change State.sns (if _ then _ else _) = _
        rw [if_pos (any_iff.2 wanted), takeSnapshot_sns, stamped]
        exact if_congr (and_iff_right wanted).symm rfl rfl
      · change State.sns (if _ then _ else _) = _
        rw [if_neg fun any => wanted (any_iff.1 any), if_neg fun both => wanted both.1]
        rfl
    have alike : StampsAlike s2 s := by
      rw [s2_eq]
      exact ⟨rfl, rfl, rfl, rfl, rfl⟩
    have raised : StampsAlike s3 u := by
      change StampsAlike (s2.raiseAll _) (s.raiseAll _)
      rw [alerts]
      exact alike.raiseAll _
    have s3_msc : s3.msc = s.msc := (congrArg State.msc s3_eq :).trans (congrArg State.msc s2_eq :)
    have items : s3.msc = u.msc := s3_msc.trans (congrArg State.msc (raiseAll_eq s _)).symm
    have s4_def : s4 = s3.accrue (onInput va) weight := by rw [← weight_eq]
    refine ⟨s4_sns.trans s2_sns, fun none => ?_, fun some => ?_, g_eq⟩
    · change s4.alt = u.alt ∧ s4.msc = s.msc
      rw [s4_def, none, accrue_none]
      exact ⟨raised.alt, s3_msc⟩
    · obtain ⟨msc, alt⟩ := raised.itemsCounted items (addedTo (fun it => it.basis = .damage ∧ it.source = .va va) weight)
      change s4.alt = w.alt ∧ s4.msc = w.msc
      rw [s4_def, accrue_eq_itemsCounted s3 (onInput_iff va) some]
      exact ⟨alt, msc⟩

end Sys2Proof.Machine
end

section
set_option Elab.async false

/-! O50: the grid analyzer's cycle, block, limit states and energy. -/

namespace Sys2Proof.Machine

/-! ### The cycle (R59 to R63) -/

theorem productSum_eq (vs cs : List Int) : productSum vs cs = (List.zipWith (· * ·) vs cs).sum := by
  induction vs generalizing cs with
  | nil => rfl
  | cons v vs ih =>
    cases cs with
    | nil => rfl
    | cons c cs => simp [productSum, ih]

theorem addSquares_getElem? {qs hs : List Nat} {m q h : Nat} (square : qs[m]? = some q) (amplitude : hs[m]? = some h) :
    (addSquares qs hs)[m]? = some (q + h ^ 2) := by
  induction qs generalizing hs m with
  | nil => cases square
  | cons _ qs ih =>
    cases hs with
    | nil => cases amplitude
    | cons _ hs =>
      cases m with
      | zero =>
        simp only [List.getElem?_cons_zero, Option.some.injEq] at square amplitude
        simp [addSquares, square, amplitude, Nat.pow_two]
      | succ m => exact ih square amplitude

theorem harmonics_getElem? (values : List Int) {m : Nat} (inRange : m < 25) :
    (harmonics values)[m]? = some (orderAmplitude (m + 1) 64 values) := by
  simp [harmonics, gridOrders, inRange, cycleSamples]

theorem cycleSlots_eq (s : State) (rev : RevId) (g : Fin 6) (rising : RisingSlots (s.gra.inputs.get g).buffer) :
    s.cycleSlots rev g = closedSlots 64 (gatheredFor rev (s.gra.inputs.get g).buffer).slots :=
  completed_eq_closedSlots _ _ _ rising

theorem cycleVerdict_eq (s : State) (rev : OpenRev) :
    s.cycleVerdict rev =
      if rev.virtual then .virtual
      else if rev.unsteady then .unsteady
      else if ∃ g ∈ s.present, 2 < (s.cycleSlots rev.id g).countP SlotSample.held then .held
      else .accepted := by
  have held : (s.present.any (fun g => heldCount (s.cycleSlots rev.id g) > 2)) = true ↔
      ∃ g ∈ s.present, 2 < (s.cycleSlots rev.id g).countP SlotSample.held := by
    simp only [List.any_eq_true, decide_eq_true_eq, heldCount_eq, gt_iff_lt]
  unfold State.cycleVerdict
  simp only [held]

/-- A cycle is not judged clipped: the four counts are those of its four verdicts. -/
theorem CycleCounts.counted_eq {d : Verdict} (notClipped : d ≠ .clipped) (c : CycleCounts) :
    let counted (e : Verdict) (n : Nat) : Nat := if d = e then min 65535 (n + 1) else n
    c.counted d = ⟨counted .accepted c.accepted, counted .virtual c.virtual, counted .unsteady c.unsteady,
      counted .held c.held⟩ := by
  cases d
  case clipped => exact absurd rfl notClipped
  all_goals rfl

theorem cycleVerdict_notClipped (s : State) (rev : OpenRev) : s.cycleVerdict rev ≠ .clipped := by
  rw [cycleVerdict_eq]
  split
  · nofun
  · split
    · nofun
    · split <;> nofun

/-- The square sums of a block after an accepted cycle (R63). -/
def State.acceptedSquares (s : State) (rev : RevId) (b : OpenBlock) : Tab 6 (List Nat) :=
  Tab.ofFn fun g => if g ∈ s.present then addSquares (b.squares.get g) (harmonics (s.cycleValues rev g)) else b.squares.get g

theorem blockAccepting_eq (s : State) (rev : RevId) (b : OpenBlock) :
    s.blockAccepting rev b =
      ⟨b.accepted + 1, b.rejected, s.acceptedSquares rev b, b.powerSum.map (· + s.cyclePower rev),
        b.clipped || s.present.any fun g => (s.cycleSlots rev g).any SlotSample.clipped, b.start⟩ := rfl

theorem joinedBlock_eq (s : State) (rev : OpenRev) :
    s.joinedBlock rev =
      if s.cycleVerdict rev = .accepted then
        s.blockAccepting rev.id (s.gra.block.getD (s.openedBlock rev.openedAt))
      else (s.gra.block.getD (s.openedBlock rev.openedAt)).rejecting := rfl

theorem acceptedSquares_length (s : State) (rev : RevId) (b : OpenBlock) (g : Fin 6) :
    ((s.acceptedSquares rev b).get g).length = (b.squares.get g).length := by
  simp only [State.acceptedSquares, Tab.get_ofFn]
  split
  · exact addSquares_length ..
  · rfl

theorem acceptedSquares_getElem? (s : State) (rev : RevId) (b : OpenBlock) (g : Fin 6) {m q : Nat} (inRange : m < 25)
    (square : (b.squares.get g)[m]? = some q) :
    ((s.acceptedSquares rev b).get g)[m]? =
      some (if g ∈ s.present then q + orderAmplitude (m + 1) 64 (s.cycleValues rev g) ^ 2 else q) := by
  simp only [State.acceptedSquares, Tab.get_ofFn]
  split
  · exact addSquares_getElem? square (harmonics_getElem? _ inRange)
  · exact square

/-! ### The block (R64, R65) -/

theorem gridResult_hb_getD {squares : List Nat} {m q : Nat} (square : squares[m]? = some q) :
    IsRoot ((gridResult squares).hb.getD m 0) (q / 10) := by
  have root : (gridResult squares).hb.getD m 0 = isqrt (q / 10) := by
    simp [gridResult, blockAmplitudes, square]
  exact root ▸ isqrt_spec _

theorem distortion_absent {hb : List Nat} (absent : hb.getD 0 0 = 0) : distortion hb = 0 := if_pos absent

theorem distortion_present {hb : List Nat} (present : 0 < hb.getD 0 0) :
    ∃ root, IsRoot root ((hb.drop 1).map fun h => h * h).sum ∧ distortion hb = min 9999 (1000 * root / hb.getD 0 0) :=
  ⟨_, isqrt_spec _, if_neg present.ne'⟩

theorem closeBlock_eq (s : State) (b : OpenBlock) (closedAt : Tick) :
    let elapsed := min 4294967295 (closedAt - b.start)
    let pkw := b.powerSum.map fun (sum : Int) => max (-32768) (min 32767 (sum / 10 * s.gra.settings.kp / 1048576))
    let results := b.squares.map gridResult
    let stored := s.storeResults b results elapsed pkw
    s.closeBlock b closedAt =
      (if b.clipped then stored else s.present.foldl (State.checkInput results pkw) stored).handPower pkw elapsed := rfl

/-! ### Limits (R67 to R69) -/

theorem worstOrder_none {hb l : List Nat} (none : worstOrder hb l = none) : l = [] := by
  cases l with
  | nil => rfl
  | cons m rest =>
    unfold worstOrder at none
    split at none
    · cases none
    · split at none <;> cases none

/-- The worst of some rising orders is one of them, above the ones before it and not below the ones after it. -/
theorem worstOrder_some {hb l : List Nat} {w : Nat} (rising : l.Pairwise (· < ·)) (worst : worstOrder hb l = some w) :
    w ∈ l ∧ ∀ m ∈ l, perMille hb m < perMille hb w ∨ perMille hb m = perMille hb w ∧ w ≤ m := by
  induction l generalizing w with
  | nil => cases worst
  | cons first rest ih =>
    obtain ⟨before, rising⟩ := List.pairwise_cons.1 rising
    unfold worstOrder at worst
    split at worst
    next none =>
      obtain rfl : first = w := Option.some.inj worst
      obtain rfl := worstOrder_none none
      exact ⟨List.mem_singleton_self _, fun m h => .inr ⟨by rw [List.mem_singleton.1 h], (List.mem_singleton.1 h).ge⟩⟩
    next x some =>
      obtain ⟨mem, above⟩ := ih rising some
      split at worst
      next higher =>
        obtain rfl : x = w := Option.some.inj worst
        refine ⟨List.mem_cons_of_mem _ mem, fun m h => ?_⟩
        rcases List.mem_cons.1 h with rfl | h
        · exact .inl higher
        · exact above m h
      next notHigher =>
        obtain rfl : first = w := Option.some.inj worst
        refine ⟨List.mem_cons_self, fun m h => ?_⟩
        rcases List.mem_cons.1 h with rfl | h
        · exact .inr ⟨rfl, le_rfl⟩
        · have below := before m h
          have := above m h
          omega

theorem mem_limitedOrders (m : Nat) : m ∈ gridOrders.drop 1 ↔ 2 ≤ m ∧ m ≤ 25 := by
  rw [show gridOrders.drop 1 = List.range' 2 24 by decide, List.mem_range'_1]
  omega

theorem mem_exceedingOrders (t : GridSettings) (hb : List Nat) (m : Nat) :
    m ∈ exceedingOrders t hb ↔
      2 ≤ m ∧ m ≤ 25 ∧ t.limit m ≠ 0 ∧ t.limit m * amplitudeOf hb 1 < amplitudeOf hb m * 1000 := by
  rw [exceedingOrders, List.mem_filter, mem_limitedOrders, decide_eq_true_eq, and_assoc]

theorem exceedingOrders_rising (t : GridSettings) (hb : List Nat) : (exceedingOrders t hb).Pairwise (· < ·) :=
  List.Pairwise.filter _ (by decide)

theorem checked_eq (l : LimitState) (exceeds : Bool) (worst : Option Nat) :
    l.checked exceeds worst =
      if exceeds = l.exceeded then
        if exceeds then { l with withinRun := 0 } else { l with exceedRun := 0 }
      else if exceeds then
        if 2 ≤ l.exceedRun then ⟨true, 0, 0, worst⟩ else { l with exceedRun := l.exceedRun + 1 }
      else if 2 ≤ l.withinRun then ⟨false, 0, 0, none⟩
      else { l with withinRun := l.withinRun + 1 } := by
  have three (n : Nat) : n + 1 ≥ 3 ↔ 2 ≤ n := by omega
  unfold LimitState.checked
  cases l.exceeded <;> cases exceeds <;> simp [three, LimitState.normal]

/-! ### The reports of limit states (R69) -/

theorem reportLimit_eq (s : State) (before after : Bool) (g : Fin 6) (kind : AlertKind) (sub : Option Nat) (detail threshold : Nat)
    (body : SnapBody) :
    s.reportLimit before after body (limitAlert g kind sub detail threshold) =
      s.reported before after g kind sub detail threshold body := by
  cases before <;> cases after
  case false.true =>
    calc
      _ = { s with
            sns := (s.takeSnapshot body).sns
            alt := (s.raise (limitAlert g kind sub detail threshold .warn s.sns.offer)).alt } := rfl
      _ = _ := by rw [takeSnapshot_sns, offer_eq]; rfl
  all_goals rfl

theorem reported_setGridInput (s : State) (before after : Bool) (g : Fin 6) (kind : AlertKind) (sub : Option Nat)
    (detail threshold : Nat) (body : SnapBody) (i : GridInput) :
    (s.reported before after g kind sub detail threshold body).setGridInput g i =
      (s.setGridInput g i).reported before after g kind sub detail threshold body := by
  cases before <;> cases after <;> rfl

theorem reported_gra (s : State) (before after : Bool) (g : Fin 6) (kind : AlertKind) (sub : Option Nat) (detail threshold : Nat)
    (body : SnapBody) : (s.reported before after g kind sub detail threshold body).gra = s.gra := by
  cases before <;> cases after <;> rfl

theorem reported_unchanged (s : State) (b : Bool) (g : Fin 6) (kind : AlertKind) (sub : Option Nat) (detail threshold : Nat)
    (body : SnapBody) : s.reported b b g kind sub detail threshold body = s := if_pos rfl

theorem setGridInput_setGridInput (s : State) (g : Fin 6) (i j : GridInput) :
    (s.setGridInput g i).setGridInput g j = s.setGridInput g j := by
  unfold State.setGridInput
  dsimp only
  rw [Tab.set_set]

/-- The check of an input, with both its limit states written before either is reported. -/
theorem checkInput_eq (s : State) (results : Tab 6 GridResult) (pkw : Option Int) (g : Fin 6) :
    let r := results.get g
    let i := s.gra.inputs.get g
    let body := SnapBody.grid g r.hb r.thd pkw
    let worst := worstOrder r.hb (exceedingOrders s.gra.settings r.hb)
    let harmonic := if g.val < 3 then i.harmonic.checked worst.isSome worst else i.harmonic
    let named := if harmonic.exceeded then harmonic.named else i.harmonic.named
    let thd := i.thd.checked (s.gra.settings.thdExceeds g r.thd) none
    s.checkInput results pkw g =
      if r.noFund then s
      else
        ((s.setGridInput g { i with harmonic := harmonic, thd := thd }).reported i.harmonic.exceeded harmonic.exceeded g
          .gridHarmonic named (perMille r.hb (named.getD 0)) (s.gra.settings.limit (named.getD 0)) body).reported
            i.thd.exceeded thd.exceeded g .gridThd none r.thd (s.gra.settings.thdLimit g) body := by
  intro r i body worst harmonic named thd
  unfold State.checkInput
  refine ite_congr rfl (fun _ => rfl) fun _ => ?_
  by_cases voltage : g.val < 3
  · have harmonic_eq : harmonic = i.harmonic.checked worst.isSome worst := if_pos voltage
    clear_value harmonic
    subst harmonic_eq
    rw [if_pos voltage, State.checkThd, State.checkHarmonic, reportLimit_eq, reportLimit_eq, reported_gra,
      reported_setGridInput, setGridInput_setGridInput]
    simp only [State.setGridInput, Tab.get_set_self, named, i, r, worst, thd, body]
  · have harmonic_eq : harmonic = i.harmonic := if_neg voltage
    clear_value harmonic
    subst harmonic_eq
    rw [if_neg voltage, State.checkThd, reportLimit_eq, reported_unchanged]

/-! ### Energy (R70, R71) -/

theorem repeatTimes_succ {α : Type} (f : α → α) (n : Nat) (x : α) : repeatTimes f (n + 1) x = f (repeatTimes f n x) := by
  induction n generalizing x with
  | zero => rfl
  | succ n ih => exact ih (f x)

theorem repeatTimes_eq {α : Type} (f : α → α) (n : Nat) (x : α) : repeatTimes f n x = Nat.repeat f n x := by
  induction n with
  | zero => rfl
  | succ n ih => rw [repeatTimes_succ, ih]; rfl

/-- The state with another analyzer. -/
def State.withGra (s : State) (g : Gra) : State := { s with gra := g }

theorem itemsCounted_withGra (s : State) (g : Gra) (count : Item → Option Nat) :
    (s.withGra g).itemsCounted count = (s.itemsCounted count).withGra g := by
  have raised (as : List Alert) : ((s.withGra g).raiseAll as).alt = (s.raiseAll as).alt :=
    (StampsAlike.raiseAll (s := s.withGra g) (t := s) ⟨rfl, rfl, rfl, rfl, rfl⟩ as).alt
  unfold State.itemsCounted
  rw [raised]
  rfl

/-- One kWh accrued to the ENERGY items, `n` times. -/
def State.kilowattHours (n : Nat) (s : State) : State :=
  Nat.repeat (fun u => u.itemsCounted (addedTo (fun it => it.basis = .energy) 1)) n s

theorem kilowattHours_succ (n : Nat) (s : State) :
    s.kilowattHours (n + 1) = (s.kilowattHours n).itemsCounted (addedTo (fun it => it.basis = .energy) 1) := rfl

theorem kilowattHours_withGra (n : Nat) (s : State) (g : Gra) :
    (s.withGra g).kilowattHours n = (s.kilowattHours n).withGra g := by
  induction n with
  | zero => rfl
  | succ n ih => rw [kilowattHours_succ, ih, itemsCounted_withGra, kilowattHours_succ]

theorem kilowattHours_onlyItems (n : Nat) (s : State) : OnlyItems s (s.kilowattHours n) := by
  induction n with
  | zero => exact .refl s
  | succ n ih => exact ih.trans (show OnlyItems _ ((s.kilowattHours n).itemsCounted _) from rfl)

theorem counted_addedTo_accrued (concerns : Item → Prop) [DecidablePred concerns] (amount : Nat) (it : Item) :
    (it.counted (addedTo concerns amount)).accrued =
      if concerns it then min 4294967295 (it.accrued + amount) else it.accrued := by
  unfold Item.counted addedTo
  by_cases concerned : concerns it <;> simp [concerned]

theorem kilowattHours_item (n : Nat) (s : State) (slot : Fin 16) (inRange : (s.msc.get slot).accrued ≤ 4294967295) :
    ((s.kilowattHours n).msc.get slot).basis = (s.msc.get slot).basis
      ∧ ((s.kilowattHours n).msc.get slot).accrued =
          if (s.msc.get slot).basis = .energy then min 4294967295 ((s.msc.get slot).accrued + n)
          else (s.msc.get slot).accrued := by
  induction n with
  | zero =>
    refine ⟨rfl, ?_⟩
    rw [Nat.add_zero, Nat.min_eq_right inRange, ite_self]
    rfl
  | succ n ih =>
    obtain ⟨basis, accrued⟩ := ih
    rw [kilowattHours_succ, itemsCounted_item]
    refine ⟨(counted_basis ..).trans basis, ?_⟩
    rw [counted_addedTo_accrued, basis, accrued]
    split
    · omega
    · rfl

theorem addEnergy_eq (s : State) (pkw : Int) (elapsed : Nat) :
    let sum := s.gra.remainder + (max 0 pkw).toNat * elapsed
    s.addEnergy pkw elapsed =
      { s.kilowattHours (sum / 7200000000) with
        gra := { s.gra with
          remainder := sum % 7200000000
          energy := min 4294967295 (s.gra.energy + sum / 7200000000) } } := by
  have once : (fun t : State => t.accrue (onBasis .energy) 1)
      = fun u => u.itemsCounted (addedTo (fun it => it.basis = .energy) 1) :=
    funext fun t => accrue_eq_itemsCounted t (onBasis_iff .energy) Nat.one_ne_zero
  unfold State.addEnergy
  rw [once, repeatTimes_eq]
  exact kilowattHours_withGra _ s _

/-- The class of a block's power moves the regime's part and the level counters alone. -/
theorem classify_onlyRegime (s : State) (pkw : Int) :
    s.classify pkw = { s with rgc := (s.classify pkw).rgc, ind := (s.classify pkw).ind } := by
  unfold State.classify
  split
  · dsimp only
    split <;> rfl
  · rfl

/-- The class looks at the lock state, the regime's part and the indicators alone. -/
theorem classify_congr {s t : State} (trk : t.trk = s.trk) (rgc : t.rgc = s.rgc) (ind : t.ind = s.ind) (pkw : Int) :
    (t.classify pkw).rgc = (s.classify pkw).rgc ∧ (t.classify pkw).ind = (s.classify pkw).ind := by
  unfold State.classify
  rw [trk, rgc]
  split
  · dsimp only
    split
    · simp only [State.enterRegime, State.refreshActive, ind, and_self]
    · exact ⟨rfl, ind⟩
  · exact ⟨rgc, ind⟩

theorem handPower_eq (s : State) (pkw : Int) (elapsed : Nat) :
    let t := s.addEnergy pkw elapsed
    s.handPower (some pkw) elapsed =
      { t with
        gra := { t.gra with power := some ⟨pkw, s.now⟩ }, rgc := (s.classify pkw).rgc, ind := (s.classify pkw).ind
        icm := { s.icm with powerSum := s.icm.powerSum + pkw, powerCount := s.icm.powerCount + 1 } } := by
  intro t
  have items := kilowattHours_onlyItems ((s.gra.remainder + (max 0 pkw).toNat * elapsed) / 7200000000) s
  have added : t = _ := addEnergy_eq s pkw elapsed
  have now : t.now = s.now := (congrArg State.now added).trans (congrArg State.now items :)
  have icm : t.icm = s.icm := (congrArg State.icm added).trans (congrArg State.icm items :)
  have trk : t.trk = s.trk := (congrArg State.trk added).trans (congrArg State.trk items :)
  have rgc : t.rgc = s.rgc := (congrArg State.rgc added).trans (congrArg State.rgc items :)
  have ind : t.ind = s.ind := (congrArg State.ind added).trans (congrArg State.ind items :)
  change ((t.refreshPower pkw).classify pkw).gatherPower pkw = _
  clear_value t
  obtain ⟨rgc', ind'⟩ := classify_congr (t := t.refreshPower pkw) trk rgc ind pkw
  rw [classify_onlyRegime, rgc', ind', ← now, ← icm]
  rfl

/-- Settles O50: a cycle is judged on its completed slots and joins its block; a block's results are the roots of its square sums;
each limit state is checked and reported by itself; and the kilowatt-hours of a block are accrued one by one. -/
theorem energyBecomesKilowattHours : Obligations.EnergyBecomesKilowattHours := by
  refine ⟨fun s rev closedAt rising => ?_, fun s b closedAt => ?_, fun s results pkw g => ?_, checked_eq,
    fun s pkw elapsed => ?_⟩
  · intro slots values verdict counted phases power b
    have slots_eq (g : Fin 6) : s.cycleSlots rev.id g = slots g := cycleSlots_eq s rev.id g (rising g)
    have values_eq (g : Fin 6) : s.cycleValues rev.id g = values g := congrArg (List.map SlotSample.value) (slots_eq g)
    have verdict_eq : s.cycleVerdict rev = verdict := by
      rw [cycleVerdict_eq]
      simp only [slots_eq, verdict]
    have power_eq : s.cyclePower rev.id = power := by
      simp only [State.cyclePower, productSum_eq, values_eq]
      rfl
    have opened : s.gra.block.getD (s.openedBlock rev.openedAt) = b := rfl
    have counts_eq := CycleCounts.counted_eq (verdict_eq ▸ cycleVerdict_notClipped s rev) s.gra.counts
    refine ⟨s.acceptedSquares rev.id b, acceptedSquares_length s rev.id b, fun g m q inRange square => ?_, ?_⟩
    · rw [← values_eq]
      exact acceptedSquares_getElem? s rev.id b g inRange square
    · intro joined counts t
      have joined_eq : s.joinedBlock rev = joined := by
        rw [joinedBlock_eq, verdict_eq, opened, blockAccepting_eq, power_eq]
        simp only [slots_eq]
        rfl
      have t_eq : s.joined rev = t := by
        unfold State.joined
        rw [verdict_eq, joined_eq, counts_eq]
      rw [closeCycle_eq, verdict_eq, joined_eq, t_eq]
  · intro number elapsed pkw
    refine ⟨b.squares.map gridResult, fun g => ?_, closeBlock_eq s b closedAt⟩
    rw [Tab.get_map]
    exact ⟨List.length_map .., fun m q => gridResult_hb_getD, rfl, distortion_absent, distortion_present⟩
  · intro r i body limit perMille exceeds thdLimit
    refine ⟨worstOrder r.hb (exceedingOrders s.gra.settings r.hb), fun none m low high exceeding => ?_, fun w worst => ?_,
      checkInput_eq s results pkw g⟩
    · have mem := (mem_exceedingOrders s.gra.settings r.hb m).2 ⟨low, high, exceeding⟩
      rw [worstOrder_none none] at mem
      cases mem
    · obtain ⟨mem, above⟩ := worstOrder_some (exceedingOrders_rising _ _) worst
      obtain ⟨low, high, exceeding⟩ := (mem_exceedingOrders s.gra.settings r.hb w).1 mem
      exact ⟨low, high, exceeding, fun m low high exceeding => above m ((mem_exceedingOrders _ _ m).2 ⟨low, high, exceeding⟩)⟩
  · intro sum t
    refine ⟨addEnergy_eq s pkw elapsed, fun slot inRange => ?_, rfl, handPower_eq s pkw elapsed⟩
    have t_eq : t.msc = (s.kilowattHours (sum / 7200000000)).msc :=
      (congrArg State.msc (addEnergy_eq s pkw elapsed) :)
    rw [t_eq]
    exact (kilowattHours_item _ s slot inRange).2

end Sys2Proof.Machine
end

section
set_option Elab.async false

/-! O41: an edge that closes a revolution. The state is followed through R15's order: strobe 0 (`u`), the hand-off (`h`), the new
buffers, and the staged settings, which either keep the channel in its lock state or take it out. -/

namespace Sys2Proof.Machine

/-! ### The hand-off (R16) -/

/-- The same but for what the close of a shaft's revolution changes: the averager, the indicators, the items and the alert list. -/
def OnlyShaftClosed (s t : State) : Prop := t = { s with sav := t.sav, ind := t.ind, msc := t.msc, alt := t.alt }

theorem OnlyShaftClosed.refl (s : State) : OnlyShaftClosed s s := rfl

theorem OnlyShaftClosed.trans {s t u : State} (h : OnlyShaftClosed s t) (k : OnlyShaftClosed t u) : OnlyShaftClosed s u := by
  unfold OnlyShaftClosed at *; rw [k, h]

/-- The same but for the averager, the indicators and the alert list. -/
def OnlyInputsClosed (s t : State) : Prop := t = { s with sav := t.sav, ind := t.ind, alt := t.alt }

theorem OnlyInputsClosed.refl (s : State) : OnlyInputsClosed s s := rfl

theorem OnlyInputsClosed.trans {s t u : State} (h : OnlyInputsClosed s t) (k : OnlyInputsClosed t u) : OnlyInputsClosed s u := by
  unfold OnlyInputsClosed at *; rw [k, h]

theorem OnlyAlt.inputsClosed {s t : State} (h : OnlyAlt s t) : OnlyInputsClosed s t := by
  unfold OnlyAlt at h; unfold OnlyInputsClosed; rw [h]

theorem closeInput_only (rev : OpenRev) (revNumber : Nat) (s : State) (va : Fin 6) :
    OnlyInputsClosed s (s.closeInput rev revNumber va) := by
  rw [closeInput_eq]
  let v := s.sav.get va
  let judged := s.setSav va (v.judgedOn rev)
  have counted : OnlyInputsClosed s (judged.raiseAll (v.closeAlerts va rev)) :=
    OnlyInputsClosed.trans (t := judged) rfl (raiseAll_onlyAlt judged _).inputsClosed
  dsimp only
  split
  · exact counted.trans rfl
  · exact counted

theorem closeShaft_only (s : State) (ch : Channel) (rev : OpenRev) (revNumber : Nat) :
    OnlyInputsClosed s (s.closeShaft ch rev revNumber) :=
  foldl_rel (f := State.closeInput rev revNumber) OnlyInputsClosed.refl OnlyInputsClosed.trans (closeInput_only rev revNumber) _ s

/-- The same but for what the close of a cycle changes: all but the averager, the sequencer and the channels. -/
def OnlyCycleClosed (s t : State) : Prop :=
  t = { s with ind := t.ind, gra := t.gra, rgc := t.rgc, icm := t.icm, msc := t.msc, alt := t.alt, sns := t.sns }

theorem OnlyCycleClosed.refl (s : State) : OnlyCycleClosed s s := rfl

theorem OnlyCycleClosed.trans {s t u : State} (h : OnlyCycleClosed s t) (k : OnlyCycleClosed t u) : OnlyCycleClosed s u := by
  unfold OnlyCycleClosed at *; rw [k, h]

theorem reported_only (s : State) (before after : Bool) (g : Fin 6) (kind : AlertKind) (sub : Option Nat)
    (detail threshold : Nat) (body : SnapBody) :
    OnlyCycleClosed s (s.reported before after g kind sub detail threshold body) := by
  cases before <;> cases after <;> rfl

theorem checkInput_only (results : Tab 6 GridResult) (pkw : Option Int) (s : State) (g : Fin 6) :
    OnlyCycleClosed s (s.checkInput results pkw g) := by
  rw [checkInput_eq]
  split
  · exact .refl s
  · exact OnlyCycleClosed.trans (t := s.setGridInput g _) rfl ((reported_only ..).trans (reported_only ..))

theorem handPower_only (s : State) (pkw : Option Int) (elapsed : Nat) : OnlyCycleClosed s (s.handPower pkw elapsed) := by
  cases pkw with
  | none => exact .refl s
  | some p =>
    rw [handPower_eq, addEnergy_eq]
    dsimp only
    have items := kilowattHours_onlyItems ((s.gra.remainder + (max 0 p).toNat * elapsed) / 7200000000) s
    unfold OnlyItems at items
    rw [items]
    rfl

theorem closeBlock_only (s : State) (b : OpenBlock) (closedAt : Tick) : OnlyCycleClosed s (s.closeBlock b closedAt) := by
  rw [closeBlock_eq]
  refine OnlyCycleClosed.trans ?_ (handPower_only _ _ _)
  split
  · rfl
  · exact OnlyCycleClosed.trans (t := s.storeResults b _ _ _) rfl
      (foldl_rel (f := State.checkInput _ _) OnlyCycleClosed.refl OnlyCycleClosed.trans (checkInput_only _ _) _ _)

theorem closeCycle_only (s : State) (rev : OpenRev) (closedAt : Tick) : OnlyCycleClosed s (s.closeCycle rev closedAt) := by
  rw [closeCycle_eq]
  split
  · exact OnlyCycleClosed.trans (t := s.joined rev) rfl (closeBlock_only ..)
  · rfl

theorem onShaft_iff (ch : Channel) (it : Item) : onShaft ch it = true ↔ it.basis = .revolutions ∧ it.source = .channel ch :=
  decide_eq_true_iff

/-- A shaft's closed revolution goes to the averager and the REVOLUTIONS items (R16). -/
theorem handRevolution_shaft {ch : Channel} (shaft : ch ≠ .tg) (s : State) (rev : OpenRev) (revNumber : Nat) (edge : Tick) :
    s.handRevolution ch rev revNumber edge =
      (s.closeShaft ch rev revNumber).itemsCounted
        (addedTo (fun it => it.basis = .revolutions ∧ it.source = .channel ch) 1) := by
  cases ch with
  | tg => exact absurd rfl shaft
  | tl | th => exact accrue_eq_itemsCounted _ (onShaft_iff _) Nat.one_ne_zero

theorem handRevolution_shaft_only {ch : Channel} (shaft : ch ≠ .tg) (s : State) (rev : OpenRev) (revNumber : Nat) (edge : Tick) :
    OnlyShaftClosed s (s.handRevolution ch rev revNumber edge) := by
  rw [handRevolution_shaft shaft]
  have closed := closeShaft_only s ch rev revNumber
  exact OnlyShaftClosed.trans (t := s.closeShaft ch rev revNumber) (by unfold OnlyInputsClosed at closed; unfold OnlyShaftClosed; rw [closed]) rfl

theorem handRevolution_shaft_accrued {ch : Channel} (shaft : ch ≠ .tg) (s : State) (rev : OpenRev) (revNumber : Nat) (edge : Tick)
    (slot : Fin 16) :
    ((s.handRevolution ch rev revNumber edge).msc.get slot).accrued =
      if (s.msc.get slot).basis = .revolutions ∧ (s.msc.get slot).source = .channel ch then
        min 4294967295 ((s.msc.get slot).accrued + 1)
      else (s.msc.get slot).accrued := by
  have items : (s.closeShaft ch rev revNumber).msc = s.msc := (congrArg State.msc (closeShaft_only s ch rev revNumber) :)
  rw [handRevolution_shaft shaft, itemsCounted_item, counted_addedTo_accrued, items]

/-- The same but for what handing a revolution on changes. -/
def OnlyHanded (s t : State) : Prop :=
  t = { s with
    sav := t.sav, ind := t.ind, gra := t.gra, rgc := t.rgc, icm := t.icm, msc := t.msc, alt := t.alt, sns := t.sns }

theorem handRevolution_only (s : State) (ch : Channel) (rev : OpenRev) (revNumber : Nat) (edge : Tick) :
    OnlyHanded s (s.handRevolution ch rev revNumber edge) := by
  cases ch with
  | tl =>
    have only := handRevolution_shaft_only (ch := .tl) nofun s rev revNumber edge
    unfold OnlyShaftClosed at only; unfold OnlyHanded; rw [only]
  | th =>
    have only := handRevolution_shaft_only (ch := .th) nofun s rev revNumber edge
    unfold OnlyShaftClosed at only; unfold OnlyHanded; rw [only]
  | tg =>
    have only : OnlyCycleClosed s (s.handRevolution .tg rev revNumber edge) := closeCycle_only s rev edge
    unfold OnlyCycleClosed at only; unfold OnlyHanded; rw [only]

/-! ### Settings at a close (R20) -/

/-- The records of a list are cleared when the settings just put in force change Z or N (R20). -/
def State.clearedIfCut (s : State) (ch : Channel) (old new : TrackSettings) : State :=
  if cutChanged old new then s.clearList ch else s

theorem clearedIfCut_onlySav (s : State) (ch : Channel) (old new : TrackSettings) : OnlySav s (s.clearedIfCut ch old new) := by
  unfold State.clearedIfCut
  split
  · exact clearList_onlySav ..
  · rfl

theorem OnlySav.afterTrack {s t : State} {ch : Channel} {k : Track} (frame : OnlySav (s.setTrack ch k) t) :
    t = { s with trk := t.trk, sav := t.sav } := by
  unfold OnlySav at frame
  rw [frame]
  rfl

theorem clearedIfCut_sav_get (s : State) (ch : Channel) (old new : TrackSettings) (va : Fin 6) :
    (s.clearedIfCut ch old new).sav.get va =
      if va ∈ s.vaList ch ∧ ∃ x ∈ some new, old.recuts x then (s.sav.get va).emptied (s.clearedIfCut ch old new)
      else s.sav.get va := by
  have trk : (s.clearedIfCut ch old new).trk = s.trk := (congrArg State.trk (clearedIfCut_onlySav s ch old new) :)
  rw [emptied_congr trk]
  unfold State.clearedIfCut
  by_cases cut : old.recuts new
  · rw [if_pos ((cutChanged_iff ..).2 cut), clearList_sav_get]
    exact if_congr (by simp [cut]) rfl rfl
  · rw [if_neg fun changed => cut ((cutChanged_iff ..).1 changed), if_neg]
    rintro ⟨-, x, isNew, recuts⟩
    exact cut (Option.mem_some_iff.1 isNew ▸ recuts)

theorem applyStagedAtClose_some {s : State} {ch : Channel} {new : TrackSettings} (staged : (s.track ch).staged = some new) :
    s.applyStagedAtClose ch =
      ((s.setTrack ch ((s.track ch).withSettings new)).applyEffect ch (s.track ch).settings new).clearedIfCut ch
        (s.track ch).settings new := by
  unfold State.applyStagedAtClose
  rw [staged]
  rfl

theorem applyStagedAtClose_none {s : State} {ch : Channel} (staged : (s.track ch).staged = none) : s.applyStagedAtClose ch = s := by
  unfold State.applyStagedAtClose
  rw [staged]

theorem applyEffect_keeps {old new : TrackSettings} (keeps : old.keepsLock new) (s : State) (ch : Channel) :
    s.applyEffect ch old new = s := by
  obtain ⟨enable, z, edge⟩ := keeps
  unfold State.applyEffect
  rw [if_neg (by simp [enable]), if_neg (by simp [z, edge])]

/-- Settings that do not keep the channel in its lock state take it out of lock, whatever they then leave of its track. -/
theorem applyEffect_leaves {old new : TrackSettings} (breaks : ¬old.keepsLock new) (s : State) (ch : Channel) :
    ∃ target track, s.applyEffect ch old new = (s.leaveLock ch target).setTrack ch track := by
  unfold State.applyEffect
  by_cases enable : new.enable = true
  · have changed : old.z ≠ new.z ∨ old.edge ≠ new.edge := by
      by_contra none
      push Not at none
      exact breaks ⟨enable, none⟩
    rw [if_neg (by simp [enable]), if_pos changed]
    exact ⟨_, _, rfl⟩
  · rw [if_pos enable]
    exact ⟨_, _, rfl⟩

/-- Staged settings that keep the lock state clear records at most. -/
theorem applyStagedAtClose_keeps {s : State} {ch : Channel}
    (kept : ∀ new ∈ (s.track ch).staged, (s.track ch).settings.keepsLock new) :
    let a := s.applyStagedAtClose ch
    a = { s with trk := a.trk, sav := a.sav }
      ∧ ∀ va, a.sav.get va =
          if va ∈ s.vaList ch ∧ ∃ new ∈ (s.track ch).staged, (s.track ch).settings.recuts new then (s.sav.get va).emptied a
          else s.sav.get va := by
  cases staged : (s.track ch).staged with
  | none =>
    rw [applyStagedAtClose_none staged]
    exact ⟨rfl, fun va => by simp⟩
  | some new =>
    rw [applyStagedAtClose_some staged, applyEffect_keeps (kept new staged)]
    let m := s.setTrack ch ((s.track ch).withSettings new)
    exact ⟨(clearedIfCut_onlySav m ch (s.track ch).settings new).afterTrack, clearedIfCut_sav_get m ch _ new⟩

/-- While nothing is staged, leaving lock is not measured against the channel's settings. -/
theorem LeavesLock.sinceUnstaged {s u t : State} {ch : Channel} (leaves : LeavesLock u t ch none)
    (acq : u.acq = s.acq) (sav : u.sav = s.sav) (gra : u.gra = s.gra) (rgc : u.rgc = s.rgc) (ind : u.ind = s.ind) :
    LeavesLock s t ch none := by
  unfold LeavesLock AbandonsScan EntersRegime State.vaList State.present State.scanList at leaves ⊢
  rw [acq, sav, gra, rgc, ind] at leaves
  simpa only [Option.not_mem_none, false_and, exists_false, and_false, if_false] using leaves

/-- Staged settings that do not keep the lock state take the channel out of lock. -/
theorem applyStagedAtClose_leaves {s : State} {ch : Channel} {new : TrackSettings} (staged : (s.track ch).staged = some new)
    (breaks : ¬(s.track ch).settings.keepsLock new) :
    OnlyUnlocking s (s.applyStagedAtClose ch) ∧ LeavesLock s (s.applyStagedAtClose ch) ch (some new) := by
  rw [applyStagedAtClose_some staged]
  let m := s.setTrack ch ((s.track ch).withSettings new)
  obtain ⟨target, track, effect⟩ := applyEffect_leaves breaks m ch
  rw [show State.applyEffect (s.setTrack ch ((s.track ch).withSettings new)) _ _ _ = _ from effect]
  let x := (m.leaveLock ch target).setTrack ch track
  have frame := clearedIfCut_onlySav x ch (s.track ch).settings new
  have leaves : LeavesLock s x ch none :=
    ((leaveLock_leaves m ch target).carried (u := x) rfl rfl rfl rfl rfl rfl rfl).sinceUnstaged rfl rfl rfl rfl rfl
  have table : x.acq.table = s.acq.table := leaveLock_table m ch target
  refine ⟨?_, leaves.settled (congrArg State.acq frame :) (congrArg State.now frame :)
    (congrArg (fun y : State => y.skd.mode) frame :) (congrArg State.gra frame :) (congrArg State.rgc frame :)
    (congrArg State.ind frame :) fun va => ?_⟩
  · refine OnlyUnlocking.trans (t := m) rfl ((leaveLock_onlyUnlocking m ch target).trans (OnlyUnlocking.trans (t := x) rfl ?_))
    unfold OnlySav at frame
    unfold OnlyUnlocking
    rw [frame]
  · refine (clearedIfCut_sav_get x ch _ new va).trans (if_congr ?_ rfl rfl)
    rw [State.vaList, State.scanList, table]
    rfl

/-! ### The channel -/

/-- A channel that has handed its revolution on: the next one is open at the N to come, and no strobe of it is left to fire (R15). -/
def Track.handedOn (t : Track) (ch : Channel) (r : OpenRev) (e : EdgeTaken) : Track :=
  { t.edgeClosing ch r e with
    rev := some ⟨⟨ch, t.nextSerial⟩, (t.staged.getD t.settings).n, false, e.virtual, 0, e.time⟩, strobes := none }

/-- A channel that takes an edge with what is left in its filter, before its strobes start or its revolution closes. -/
def Track.takingEdge (t : Track) (e : EdgeTaken) : Track :=
  ({ t with transition := e.left } : Track).pulled e.lock e.time e.taking e.tprev e.tprev e.unsteady e.virtual

theorem takingEdge_handingOn {k : Track} (ch : Channel) (r : OpenRev) (e : EdgeTaken) (returns : k.nextIndex = 0) :
    ((k.takingEdge e).opening ch e.time (k.staged.getD k.settings).n e.virtual).handingOn (r.after e).ticks = k.handedOn ch r e := by
  have returns' : (k.p + 1) % k.settings.z = 0 := returns
  simp only [Track.takingEdge, Track.pulled, Track.opening, Track.handingOn, returns']
  rfl

theorem handedOn_keeps {k : Track} {e : EdgeTaken} {new : TrackSettings} (follows : e.lock.following = true)
    (staged : k.staged = some new) (keeps : k.settings.keepsLock new) (ch : Channel) (r : OpenRev) :
    (((k.handedOn ch r e).withSettings new).effected k.settings new).scheduled e.taking = k.edgeApplying ch r e new := by
  have stands : ((k.handedOn ch r e).withSettings new).effected k.settings new = (k.handedOn ch r e).withSettings new := by
    obtain ⟨enable, z, edge⟩ := keeps
    unfold Track.effected
    rw [if_neg (by simp [enable]), if_neg (by simp [z, edge])]
  have ⟨_, _, edge⟩ := keeps
  rw [stands, scheduled_following follows, Track.edgeApplying, if_pos keeps]
  simp only [if_pos edge, Track.withSettings, Track.handedOn, staged, Option.getD_some, Track.edgeClosing, Track.edgeOpening,
    TrackSettings.strobesPerInterval, Nat.zero_mul]

theorem handedOn_breaks {k : Track} {new : TrackSettings} (breaks : ¬k.settings.keepsLock new) (ch : Channel) (r : OpenRev)
    (e : EdgeTaken) :
    (((k.handedOn ch r e).withSettings new).effected k.settings new).scheduled e.taking = k.edgeApplying ch r e new := by
  unfold Track.effected Track.edgeApplying
  by_cases enable : new.enable = true
  · have changed : k.settings.z ≠ new.z ∨ k.settings.edge ≠ new.edge := by
      by_contra none
      push Not at none
      exact breaks ⟨enable, none⟩
    rw [if_neg (by simp [enable]), if_pos changed, scheduled_not_following rfl]
    simp only [if_neg breaks, if_pos enable]
    rfl
  · rw [if_pos enable, scheduled_not_following rfl]
    simp only [if_neg breaks, if_neg enable]
    rfl

/-- A channel after an edge that closes its open revolution `r`, by what is staged (R15, R20). -/
def Track.edgeTurning (t : Track) (ch : Channel) (r : OpenRev) (e : EdgeTaken) : Track :=
  match t.staged with
  | none => t.edgeClosing ch r e
  | some new => t.edgeApplying ch r e new

/-- A channel that takes an edge at which its index returns to 0 (R15). -/
theorem takingEdge_turned {k : Track} {ch : Channel} {e : EdgeTaken} {r : OpenRev} (follows : e.lock.following = true)
    (returns : k.nextIndex = 0) (held : k.rev = some r) :
    (k.takingEdge e).turned ch e.time e.taking e.virtual = k.edgeTurning ch r e := by
  have opened : (k.takingEdge e).rev = some (r.after e) := congrArg (Option.map fun r : OpenRev => r.after e) held
  refine (turned_open opened ch e.time e.taking e.virtual).trans ?_
  refine (congrArg (fun t : Track => t.appliedAtClose.scheduled e.taking) (takingEdge_handingOn ch r e returns)).trans ?_
  have handed : (k.handedOn ch r e).staged = k.staged := rfl
  unfold Track.edgeTurning
  cases staged : k.staged with
  | none =>
    rw [appliedAtClose_none (handed.trans staged), scheduled_following follows]
    simp only [Track.handedOn, staged, Option.getD_none]
    rfl
  | some new =>
    rw [appliedAtClose_some (handed.trans staged)]
    by_cases keeps : k.settings.keepsLock new
    · exact handedOn_keeps follows staged keeps ch r
    · exact handedOn_breaks keeps ch r e

theorem takingEdge_turned_closed {k : Track} {ch : Channel} {e : EdgeTaken} (follows : e.lock.following = true)
    (returns : k.nextIndex = 0) (closed : k.rev = none) :
    (k.takingEdge e).turned ch e.time e.taking e.virtual = k.edgeOpening ch e := by
  have returns' : (k.p + 1) % k.settings.z = 0 := returns
  rw [turned_none (congrArg (Option.map fun r : OpenRev => r.after e) closed), scheduled_following follows]
  simp only [Track.takingEdge, Track.pulled, Track.opening, Track.edgeOpening, Track.strobesAt, returns']
  rfl

/-! ### The turn (R15) -/

theorem turnRevolution_open {v : State} {ch : Channel} {k : Track} {e : EdgeTaken} {r : OpenRev}
    (track : v.track ch = k.takingEdge e) (returns : k.nextIndex = 0) (held : k.rev = some r) :
    let u := ((v.openRevolution ch e.time (k.staged.getD k.settings).n e.virtual).takeStrobe ch 0).setTrack ch (k.handedOn ch r e)
    let h := u.handRevolution ch (r.after e) ((k.closedCount + 1) % 4294967296) e.time
    v.turnRevolution ch e.time e.taking e.virtual =
      ((h.freshBuffers ch).applyStagedAtClose ch).scheduleStrobes ch e.taking := by
  have opened : (k.takingEdge e).rev = some (r.after e) := congrArg (Option.map fun r : OpenRev => r.after e) held
  have strobed : ((v.openRevolution ch e.time (k.staged.getD k.settings).n e.virtual).takeStrobe ch 0).track ch =
      (k.takingEdge e).opening ch e.time (k.staged.getD k.settings).n e.virtual := by
    rw [State.track_def, takeStrobe_trk, openRevolution_trk, PerChannel.get_set_self, track]
  intro u h
  unfold State.turnRevolution
  rw [track]
  dsimp only
  rw [opened]
  change (State.scheduleStrobes (((State.closeRevolution ((v.openRevolution ch e.time (k.staged.getD k.settings).n
    e.virtual).takeStrobe ch 0) ch (r.after e) e.time).freshBuffers ch).applyStagedAtClose ch) ch e.taking) = _
  rw [closeRevolution_eq, strobed, takingEdge_handingOn ch r e returns]
  rfl

theorem turnRevolution_closed {v : State} {ch : Channel} {k : Track} {e : EdgeTaken} (track : v.track ch = k.takingEdge e)
    (closed : k.rev = none) :
    v.turnRevolution ch e.time e.taking e.virtual =
      (((v.openRevolution ch e.time k.settings.n e.virtual).freshBuffers ch).takeStrobe ch 0).scheduleStrobes ch e.taking := by
  have closed' : (k.takingEdge e).rev = none := congrArg (Option.map fun r : OpenRev => r.after e) closed
  unfold State.turnRevolution
  rw [track]
  dsimp only
  rw [closed']
  rfl

/-- From the hand-off to the end of the edge: the inputs start gathering, and the staged settings are applied (R15, R20). -/
theorem handedOn_applies {h : State} {ch : Channel} {k : Track} {r : OpenRev} {e : EdgeTaken} (track : h.track ch = k.handedOn ch r e) :
    let t := ((h.freshBuffers ch).applyStagedAtClose ch).scheduleStrobes ch e.taking
    let fresh : Option RevBuffer := some ⟨⟨ch, k.nextSerial⟩, [], 0⟩
    let kept := ∀ new ∈ k.staged, k.settings.keepsLock new
    let clears := ∃ new ∈ k.staged, k.settings.recuts new
    t = { h with
        sav := t.sav, ind := t.ind, rgc := t.rgc, trk := t.trk
        acq := { h.acq with scans := t.acq.scans, converter := t.acq.converter }
        gra := { h.gra with inputs := t.gra.inputs, block := if ch = .tg ∧ ¬kept then none else h.gra.block } }
      ∧ (∀ va,
          let v := if va ∈ h.vaList ch ∧ clears then (h.sav.get va).emptied t else h.sav.get va
          t.sav.get va =
            { v with buffer := if ch ≠ .tg ∧ va ∈ h.vaList ch then (if kept then fresh else none) else v.buffer })
      ∧ (∀ g,
          let i := h.gra.inputs.get g
          t.gra.inputs.get g =
            { i with buffer := if ch = .tg ∧ g ∈ h.present then (if kept then fresh else none) else i.buffer })
      ∧ (ch = .tl ∧ ¬kept → EntersRegime h t 0) ∧ (ch ≠ .tl ∨ kept → t.rgc = h.rgc ∧ t.ind = h.ind)
      ∧ (kept → t.acq = h.acq) ∧ (¬kept → AbandonsScan h t ch) := by
  let f := h.gatheringFor ⟨ch, k.nextSerial⟩
  have f_eq : h.freshBuffers ch = f := freshBuffers_gathering (congrArg Track.rev track) rfl
  have f_track : f.track ch = k.handedOn ch r e := track
  rw [f_eq, scheduleStrobes_eq]
  intro t fresh kept clears
  have f_sav (va : Fin 6) : f.sav.get va = { h.sav.get va with
      buffer := if ch ≠ .tg ∧ va ∈ h.vaList ch then some ⟨⟨ch, k.nextSerial⟩, [], 0⟩ else (h.sav.get va).buffer } := Tab.get_ofFn ..
  have f_grid (g : Fin 6) : f.gra.inputs.get g = { h.gra.inputs.get g with
      buffer := if ch = .tg ∧ g ∈ h.present then some ⟨⟨ch, k.nextSerial⟩, [], 0⟩ else (h.gra.inputs.get g).buffer } := Tab.get_ofFn ..
  let a := f.applyStagedAtClose ch
  have t_settings (o : Channel) : (State.track t o).settings = (a.track o).settings := by
    by_cases same : o = ch
    · subst same
      exact (congrArg Track.settings (State.track_setTrack_self ..)).trans (scheduled_settings ..)
    · exact congrArg Track.settings (State.track_setTrack_ne _ _ same)
  have emptied (v : Sav) : v.emptied t = v.emptied a := emptied_congr_settings t_settings v
  by_cases keeps : kept
  · obtain ⟨frame, sav⟩ := applyStagedAtClose_keeps (s := f) (ch := ch) (by rw [f_track]; exact keeps)
    have only : t = { f with trk := t.trk, sav := t.sav } := by
      change State.setTrack a ch _ = { f with trk := _, sav := a.sav }
      rw [show a = _ from frame]
      rfl
    have block : (if ch = .tg ∧ ¬kept then none else h.gra.block) = h.gra.block := if_neg fun both => both.2 keeps
    have sav_t (va : Fin 6) : t.sav.get va =
        if va ∈ h.vaList ch ∧ clears then (f.sav.get va).emptied t else f.sav.get va := by
      rw [emptied]
      exact (sav va).trans (by rw [f_track]; rfl)
    have grid : t.gra = f.gra := (congrArg State.gra only :)
    refine ⟨?_, fun va => ?_, fun g => ?_, fun both => absurd keeps both.2,
      fun _ => ⟨(congrArg State.rgc only :), (congrArg State.ind only :)⟩, fun _ => (congrArg State.acq only :),
      fun breaks => absurd keeps breaks⟩
    · rw [block]
      clear_value t
      rw [only]
      rfl
    · dsimp only
      rw [sav_t, f_sav, if_pos keeps]
      split <;> rfl
    · dsimp only
      rw [grid, f_grid, if_pos keeps]
  · obtain ⟨new, staged, breaks⟩ : ∃ new, k.staged = some new ∧ ¬k.settings.keepsLock new := by
      by_contra none
      exact keeps fun new staged => by_contra fun breaks => none ⟨new, staged, breaks⟩
    obtain ⟨frame, abandons, sav, grid, inputs, shaft, other⟩ :=
      applyStagedAtClose_leaves (s := f) (ch := ch) (new := new) (by rw [f_track]; exact staged) (by rw [f_track]; exact breaks)
    have acq : t.acq = { h.acq with scans := t.acq.scans, converter := t.acq.converter } :=
      congrArg (fun table => ({ table := table, scans := t.acq.scans, converter := t.acq.converter } : Acq)) abandons.1
    have gra : t.gra = { h.gra with
        inputs := t.gra.inputs, block := if ch = .tg ∧ ¬kept then none else h.gra.block } := by
      have block : (if ch = .tg ∧ ¬kept then none else h.gra.block) = if ch = .tg then none else h.gra.block :=
        if_congr (and_iff_left keeps) rfl rfl
      rw [block]
      exact grid
    have only : t = { f with trk := t.trk, sav := t.sav, ind := t.ind, rgc := t.rgc, acq := t.acq, gra := t.gra } := by
      change State.setTrack a ch _ = { f with trk := _, sav := a.sav, ind := a.ind, rgc := a.rgc, acq := a.acq, gra := a.gra }
      rw [show a = _ from frame]
      rfl
    have sav_t (va : Fin 6) : t.sav.get va =
        { (if va ∈ h.vaList ch ∧ clears then (f.sav.get va).emptied t else f.sav.get va) with
          buffer := if ch ≠ .tg ∧ va ∈ h.vaList ch then none
            else (if va ∈ h.vaList ch ∧ clears then (f.sav.get va).emptied t else f.sav.get va).buffer } := by
      rw [emptied]
      have clears_iff : clears ↔ ∃ x ∈ some new, (f.track ch).settings.recuts x := by
        rw [f_track]
        change (∃ x ∈ k.staged, k.settings.recuts x) ↔ _
        rw [staged]
        rfl
      simp only [clears_iff]
      exact sav va
    refine ⟨?_, fun va => ?_, fun g => ?_, fun both => (shaft both.1).congr rfl rfl rfl rfl,
      fun either => other (either.resolve_right keeps), fun kept => absurd kept keeps, fun _ => abandons.congr rfl rfl rfl rfl⟩
    · exact only.trans (congrArg₂ (fun acq gra =>
        ({ f with trk := t.trk, sav := t.sav, ind := t.ind, rgc := t.rgc, acq := acq, gra := gra } : State)) acq gra)
    · dsimp only
      rw [sav_t, f_sav, if_neg keeps]
      by_cases listed : ch ≠ .tg ∧ va ∈ h.vaList ch
      · simp only [if_pos listed]
        split <;> rfl
      · simp only [if_neg listed]
    · have inputs_t : t.gra.inputs.get g = { f.gra.inputs.get g with
          buffer := if ch = .tg ∧ g ∈ h.present then none else (f.gra.inputs.get g).buffer } := inputs g
      dsimp only
      rw [inputs_t, f_grid, if_neg keeps]
      by_cases present : ch = .tg ∧ g ∈ h.present
      · simp only [if_pos present]
      · simp only [if_neg present]

/-- What a turn leaves when its revolution is handed on: strobe 0 taken, the next revolution open (R15). -/
def State.turning (s : State) (ch : Channel) (r : OpenRev) (e : EdgeTaken) : State :=
  let k := s.track ch
  ((((s.atEdge ch e).setTrack ch (k.takingEdge e)).openRevolution ch e.time (k.staged.getD k.settings).n e.virtual).takeStrobe ch
    0).setTrack ch (k.handedOn ch r e)

theorem turning_onlySampling (s : State) (ch : Channel) (r : OpenRev) (e : EdgeTaken) :
    s.turning ch r e = { s with
      now := e.taking, trk := (s.turning ch r e).trk, sav := (s.turning ch r e).sav
      gra := { s.gra with inputs := (s.turning ch r e).gra.inputs }
      acq := { s.acq with scans := (s.turning ch r e).acq.scans, converter := (s.turning ch r e).acq.converter } } := by
  have frame := takeStrobe_onlySampling
    (((s.atEdge ch e).setTrack ch ((s.track ch).takingEdge e)).openRevolution ch e.time
      ((s.track ch).staged.getD (s.track ch).settings).n e.virtual) ch 0
  unfold State.turning
  unfold OnlySampling at frame
  dsimp only
  generalize State.takeStrobe _ ch 0 = strobed at frame ⊢
  rw [frame]
  rfl

theorem turning_trk (s : State) (ch : Channel) (r : OpenRev) (e : EdgeTaken) :
    (s.turning ch r e).trk = s.trk.set ch ((s.track ch).handedOn ch r e) := by
  unfold State.turning
  dsimp only
  rw [State.setTrack_trk, takeStrobe_trk, openRevolution_trk, PerChannel.set_set, State.setTrack_trk, PerChannel.set_set]
  exact PerChannel.set_set ..

theorem turning_takes (s : State) (ch : Channel) (r : OpenRev) (e : EdgeTaken) :
    TakesStrobe s (s.turning ch r e) ch ⟨ch, (s.track ch).nextSerial⟩ 0 ((s.track ch).staged.getD (s.track ch).settings).n := by
  let v := ((s.atEdge ch e).setTrack ch ((s.track ch).takingEdge e)).openRevolution ch e.time
    ((s.track ch).staged.getD (s.track ch).settings).n e.virtual
  have opened : (v.track ch).rev = some ⟨⟨ch, (s.track ch).nextSerial⟩, ((s.track ch).staged.getD (s.track ch).settings).n, false,
      e.virtual, 0, e.time⟩ := by
    rw [State.track_def, openRevolution_trk, PerChannel.get_set_self, State.track_setTrack_self]
    rfl
  exact (takeStrobe_takes 0 opened).congr rfl rfl rfl rfl rfl rfl rfl rfl

/-- Settles O41: with a revolution open, strobe 0, the hand-off and `handedOn_applies`; without one the edge only opens one. -/
theorem edgeClosesRevolution : Obligations.EdgeClosesRevolution := by
  intro s ch c e k fresh running comes returns
  obtain ⟨follows, row⟩ := exec_edge running comes
  let v := (s.atEdge ch e).setTrack ch (k.takingEdge e)
  have v_track : State.track v ch = k.takingEdge e := State.track_setTrack_self ..
  have turns : exec c s = .next (State.turnRevolution v ch e.time e.taking e.virtual) := by
    rw [row, followEdge_eq, atEdge_track]
    exact congrArg _ (if_pos returns)
  have placed (x : Track) : v.trk.set ch x = s.trk.set ch x := (PerChannel.set_set ..).trans (PerChannel.set_set ..)
  have trk : (State.turnRevolution v ch e.time e.taking e.virtual).trk =
      s.trk.set ch ((k.takingEdge e).turned ch e.time e.taking e.virtual) := by
    rw [turnRevolution_trk, v_track, placed]
  refine ⟨fun r held => ?_, fun closed => ?_⟩
  · rw [takingEdge_turned follows returns held] at trk
    have turned := turnRevolution_open v_track returns held
    have u_frame := turning_onlySampling s ch r e
    have u_trk := turning_trk s ch r e
    have u_takes := turning_takes s ch r e
    change State.turnRevolution v ch e.time e.taking e.virtual =
      (((State.handRevolution (s.turning ch r e) ch (r.after e) ((k.closedCount + 1) % 4294967296) e.time).freshBuffers
        ch).applyStagedAtClose ch).scheduleStrobes ch e.taking at turned
    rw [turned] at turns trk
    generalize s.turning ch r e = u at u_frame u_trk u_takes turns trk
    refine ⟨u, _, turns, u_frame, fun o other => ?_, u_takes, ?_⟩
    · rw [State.track_def, u_trk, PerChannel.get_set_ne _ _ other]
      rfl
    intro h kept clears
    have handed : OnlyHanded u h := handRevolution_only u ch (r.after e) _ e.time
    have h_track : State.track h ch = k.handedOn ch r e := by
      rw [State.track_def, show h.trk = u.trk from (congrArg State.trk handed :), u_trk, PerChannel.get_set_self]
    have h_acq : h.acq = u.acq := (congrArg State.acq handed :)
    have list : State.vaList h ch = s.vaList ch := by
      rw [State.vaList, State.scanList, h_acq, show u.acq.table = s.acq.table from (congrArg (fun x : State => x.acq.table) u_frame :)]
      rfl
    have present : State.present h = s.present := by
      rw [State.present, State.scanList, h_acq, show u.acq.table = s.acq.table from (congrArg (fun x : State => x.acq.table) u_frame :)]
      rfl
    have table : h.acq.table = s.acq.table := by rw [h_acq]; exact (congrArg (fun x : State => x.acq.table) u_frame :)
    obtain ⟨frame, sav, grid, shaft, other, quiet, abandons⟩ := handedOn_applies h_track
    rw [list] at sav
    rw [present] at grid
    generalize State.scheduleStrobes _ ch e.taking = t at turns trk frame sav grid shaft other quiet abandons
    refine ⟨?_, sav, grid, shaft, other, fun kept => (quiet kept).trans h_acq, fun breaks => (abandons breaks).congr h_acq.symm rfl rfl rfl,
      fun shaft => ?_, fun isGrid => ?_⟩
    · have phase : h.phase = s.phase := (congrArg State.phase handed :).trans (congrArg State.phase u_frame :)
      have now : h.now = e.taking := (congrArg State.now handed :).trans (congrArg State.now u_frame :)
      have skd : h.skd = s.skd := (congrArg State.skd handed :).trans (congrArg State.skd u_frame :)
      have lnk : h.lnk = s.lnk := (congrArg State.lnk handed :).trans (congrArg State.lnk u_frame :)
      have clk : h.clk = s.clk := (congrArg State.clk handed :).trans (congrArg State.clk u_frame :)
      have sst : h.sst = s.sst := (congrArg State.sst handed :).trans (congrArg State.sst u_frame :)
      have pending : h.pending = s.pending := (congrArg State.pending handed :).trans (congrArg State.pending u_frame :)
      refine frame.trans ?_
      dsimp only
      rw [trk, phase, now, skd, lnk, clk, sst, pending, table]
      rfl
    · have only : OnlyShaftClosed u h := handRevolution_shaft_only shaft u (r.after e) _ e.time
      have items : u.msc = s.msc := (congrArg State.msc u_frame :)
      refine ⟨?_, (congrArg State.gra only :), (congrArg State.rgc only :).trans (congrArg State.rgc u_frame :),
        (congrArg State.icm only :).trans (congrArg State.icm u_frame :),
        (congrArg State.sns only :).trans (congrArg State.sns u_frame :), fun slot => ?_⟩
      · have list' : u.vaList ch = s.vaList ch := by rw [← list, State.vaList, State.vaList, State.scanList, State.scanList, h_acq]
        rw [← list']
        exact handRevolution_shaft shaft ..
      · rw [← items]
        exact handRevolution_shaft_accrued shaft ..
    · subst isGrid
      exact ⟨rfl, (congrArg State.sav (closeCycle_only u (r.after e) e.time) :)⟩
  · rw [takingEdge_turned_closed follows returns closed] at trk
    rw [turnRevolution_closed v_track closed] at turns trk
    let id : RevId := ⟨ch, k.nextSerial⟩
    let w := State.openRevolution v ch e.time k.settings.n e.virtual
    have w_opened : (State.track w ch).rev = some ⟨id, k.settings.n, false, e.virtual, 0, e.time⟩ := by
      rw [State.track_def, openRevolution_trk, PerChannel.get_set_self, v_track]
      rfl
    have fresh' : State.freshBuffers w ch = State.gatheringFor w id := freshBuffers_gathering w_opened rfl
    have takes := takeStrobe_takes (s := State.gatheringFor w id) (ch := ch) 0 w_opened
    have frame := takeStrobe_onlySampling (State.gatheringFor w id) ch 0
    change exec c s = .next (State.scheduleStrobes (State.takeStrobe (State.freshBuffers w ch) ch 0) ch e.taking) at turns
    change (State.scheduleStrobes (State.takeStrobe (State.freshBuffers w ch) ch 0) ch e.taking).trk = _ at trk
    rw [fresh', scheduleStrobes_eq] at turns trk
    generalize State.takeStrobe (State.gatheringFor w id) ch 0 = strobed at turns trk takes frame
    refine ⟨_, turns, ?_, takes.congr rfl rfl rfl rfl rfl rfl rfl rfl⟩
    rw [← trk]
    unfold OnlySampling at frame
    rw [frame]
    rfl

end Sys2Proof.Machine
end

section
set_option Elab.async false

/-! O19: what a host sends is what the part reads. A payload is a row of parts; a field is read from the part it stands in. -/

namespace Sys2Proof.Machine

/-! ### The value of some bytes -/

theorem natOf_append (a b : List Byte) : natOf (a ++ b) = natOf a * 256 ^ b.length + natOf b := by
  induction b using List.reverseRecOn with
  | nil => simp [natOf]
  | append_singleton b x ih =>
    have last (l : List Byte) : natOf (l ++ [x]) = 256 * natOf l + x.toNat := by simp [natOf]
    rw [← List.append_assoc, last, last, ih, List.length_append, List.length_singleton, Nat.pow_succ]
    ring

@[simp] theorem bytesOf_length (v : Int) (width : Nat) : (bytesOf v width).length = width := by
  induction width with
  | zero => rfl
  | succ k ih => simp [bytesOf, ih]

theorem byteOf_toNat (v : Int) (k : Nat) : ((byteOf v k).toNat : Int) = v / 256 ^ k % 256 := by
  rw [byteOf, BitVec.toNat_ofInt]
  have nonneg := Int.emod_nonneg (v / ((256 ^ k : Nat) : Int)) (show (256 : Int) ≠ 0 by decide)
  push_cast at nonneg ⊢
  exact Int.toNat_of_nonneg nonneg

/-- The bytes of a value carry it modulo what they can hold (R166). -/
theorem natOf_bytesOf (v : Int) (width : Nat) : (natOf (bytesOf v width) : Int) = v % 256 ^ width := by
  induction width with
  | zero => simp [bytesOf, natOf]
  | succ k ih =>
    have split : natOf (bytesOf v (k + 1)) = (byteOf v k).toNat * 256 ^ k + natOf (bytesOf v k) := by
      have joined := natOf_append [byteOf v k] (bytesOf v k)
      rw [bytesOf_length] at joined
      simpa [bytesOf, natOf] using joined
    have quotient : v / 256 ^ (k + 1) = v / 256 ^ k / 256 := by
      rw [pow_succ, Int.ediv_ediv_of_nonneg (by positivity)]
    rw [split]
    push_cast
    rw [byteOf_toNat, ih, Int.emod_def, Int.emod_def, Int.emod_def, quotient]
    ring

theorem natOf_bytesOf_nat {v width : Nat} (fit : fits width v = true) : natOf (bytesOf v width) = v := by
  have below : v < 256 ^ width := of_decide_eq_true fit
  have value := natOf_bytesOf v width
  rw [Int.emod_eq_of_lt (by positivity) (by exact_mod_cast below)] at value
  exact_mod_cast value

/-! ### Fields among the parts of a payload -/

@[simp] theorem natAt_skip {a q : List Byte} {offset width : Nat} (past : a.length ≤ offset) :
    natAt (a ++ q) offset width = natAt q (offset - a.length) width := by
  rw [natAt, List.drop_append, List.drop_eq_nil_of_le past]
  rfl

theorem natAt_within {a q : List Byte} {offset width : Nat} (inside : offset + width ≤ a.length) :
    natAt (a ++ q) offset width = natAt a offset width := by
  rw [natAt, natAt, List.drop_append_of_le_length (by omega), List.take_append_of_le_length (by rw [List.length_drop]; omega)]

@[simp] theorem natAt_only {v width : Nat} (fit : fits width v = true) : natAt (bytesOf v width) 0 width = v := by
  rw [natAt, List.drop_zero, List.take_of_length_le (bytesOf_length ..).le, natOf_bytesOf_nat fit]

@[simp] theorem natAt_first {v width : Nat} (fit : fits width v = true) (q : List Byte) : natAt (bytesOf v width ++ q) 0 width = v := by
  rw [natAt_within (by rw [bytesOf_length, Nat.zero_add]), natAt_only fit]

@[simp] theorem intAt_skip {a q : List Byte} {offset : Nat} (past : a.length ≤ offset) :
    intAt (a ++ q) offset = intAt q (offset - a.length) := by
  rw [intAt, natAt_skip past, intAt]

@[simp] theorem intAt_only {v : Int} (fit : fitsSigned v = true) : intAt (bytesOf v 2) 0 = v := by
  obtain ⟨low, high⟩ : -32768 ≤ v ∧ v ≤ 32767 := of_decide_eq_true fit
  have value := natOf_bytesOf v 2
  rw [intAt, natAt, List.drop_zero, List.take_of_length_le (bytesOf_length ..).le, BitVec.toInt_eq_toNat_bmod, BitVec.toNat_ofNat, Int.bmod_def]
  push_cast
  rw [value]
  split <;> omega

@[simp] theorem intAt_first {v : Int} (fit : fitsSigned v = true) (q : List Byte) : intAt (bytesOf v 2 ++ q) 0 = v := by
  rw [intAt, natAt_within (by rw [bytesOf_length])]
  exact intAt_only fit

/-! ### Choices -/

theorem choiceAt_eq {α : Type} (p : List Byte) (offset : Nat) (first second : α) :
    choiceAt p offset first second =
      if natAt p offset 1 = 0 then some first else if natAt p offset 1 = 1 then some second else none := by
  unfold choiceAt
  split <;> simp_all

@[simp] theorem choiceBytes_length (b : Bool) : (choiceBytes b).length = 1 := bytesOf_length ..

@[simp] theorem choiceAt_skip {α : Type} {a q : List Byte} {offset : Nat} (past : a.length ≤ offset) (first second : α) :
    choiceAt (a ++ q) offset first second = choiceAt q (offset - a.length) first second := by
  rw [choiceAt_eq, choiceAt_eq, natAt_skip past]

@[simp] theorem choiceAt_only {α : Type} (b : Bool) (first second : α) :
    choiceAt (choiceBytes b) 0 first second = some (if b then first else second) := by
  cases b <;> rfl

@[simp] theorem choiceAt_first {α : Type} (b : Bool) (q : List Byte) (first second : α) :
    choiceAt (choiceBytes b ++ q) 0 first second = some (if b then first else second) := by
  rw [choiceAt_eq, natAt_within (by rw [choiceBytes_length]), ← choiceAt_eq, choiceAt_only]

/-! ### Rows of equal parts -/

theorem flatMap_length {α : Type} {part : α → List Byte} {size : Nat} (equal : ∀ x, (part x).length = size) (l : List α) :
    (l.flatMap part).length = size * l.length := by
  induction l with
  | nil => rfl
  | cons x l ih => rw [List.flatMap_cons, List.length_append, equal, ih, List.length_cons, Nat.mul_succ, Nat.add_comm]

/-- A field of part `i` of a row of equal parts. -/
theorem natAt_part {α : Type} {part : α → List Byte} {size : Nat} (equal : ∀ x, (part x).length = size) {l : List α} {i : Nat}
    (inRow : i < l.length) {d width : Nat} (inPart : d + width ≤ size) (q : List Byte) :
    natAt (l.flatMap part ++ q) (size * i + d) width = natAt (part l[i]) d width := by
  induction l generalizing i with
  | nil => cases inRow
  | cons x l ih =>
    rw [List.flatMap_cons, List.append_assoc]
    cases i with
    | zero => rw [Nat.mul_zero, Nat.zero_add, natAt_within (by rw [equal]; exact inPart)]; rfl
    | succ i =>
      rw [natAt_skip (by rw [equal, Nat.mul_succ]; omega), equal, Nat.mul_succ,
        show size * i + size + d - size = size * i + d by omega]
      exact ih (Nat.lt_of_succ_lt_succ inRow)

@[simp] theorem natsBytes_length (width : Nat) (l : List Nat) : (natsBytes width l).length = width * l.length :=
  flatMap_length (fun v : Nat => bytesOf_length v width) l

/-- Numbers sent in consecutive fields are read from them, wherever they stand. -/
@[simp] theorem natsAt_first {n width : Nat} {t : Tab n Nat} (fit : t.list.all (fits width) = true) (q : List Byte) :
    natsAt (natsBytes width t.list ++ q) 0 width n = t := by
  refine Tab.ext_get fun i => ?_
  have inRow : i.val < t.list.length := Nat.lt_of_lt_of_eq i.isLt t.len.symm
  rw [natsAt, Tab.get_ofFn, Nat.zero_add, ← Nat.add_zero (width * i.val), natsBytes,
    natAt_part (fun v : Nat => bytesOf_length v width) inRow (Nat.zero_add width).le]
  exact natAt_only (List.all_eq_true.1 fit _ (List.getElem_mem inRow))

@[simp] theorem natsAt_only {n width : Nat} {t : Tab n Nat} (fit : t.list.all (fits width) = true) :
    natsAt (natsBytes width t.list) 0 width n = t := by
  have read := natsAt_first fit []
  rwa [List.append_nil] at read

@[simp] theorem natsAt_skip {n width offset : Nat} {a q : List Byte} (past : a.length ≤ offset) :
    natsAt (a ++ q) offset width n = natsAt q (offset - a.length) width n := by
  refine Tab.ext_get fun i => ?_
  rw [natsAt, natsAt, Tab.get_ofFn, Tab.get_ofFn, natAt_skip (by omega), Nat.sub_add_comm past]

/-! ### The fields of each request -/

@[simp] theorem edge_of_choice (e : Edge) : (if e = .rising then Edge.rising else .falling) = e := by cases e <;> rfl

theorem trackFieldsAt_trackBytes {f : TrackFields} (wf : f.wellFormed = true) : trackFieldsAt (trackBytes f) = some f := by
  simp only [TrackFields.wellFormed, Bool.and_eq_true] at wf
  obtain ⟨⟨⟨⟨⟨channel, z⟩, n⟩, tmin⟩, tmax⟩, filter⟩ := wf
  simp [trackFieldsAt, trackBytes, *]

/-- The part of an entry of SET_SCAN. -/
def scanPart (e : ScanEntryField) : List Byte := bytesOf e.input 1 ++ choiceBytes e.stop

theorem scanPart_length (e : ScanEntryField) : (scanPart e).length = 2 := by simp [scanPart]

theorem scanBytes_eq (f : ScanFields) :
    scanBytes f =
      f.entries.list.flatMap scanPart ++ (bytesOf f.startTl 1 ++ (bytesOf f.startTh 1 ++ bytesOf f.startTg 1)) := by
  simp only [scanBytes, List.append_assoc]
  rfl

theorem scanFieldsAt_scanBytes {f : ScanFields} (wf : f.wellFormed = true) : scanFieldsAt (scanBytes f) = some f := by
  simp only [ScanFields.wellFormed, Bool.and_eq_true, List.all_eq_true] at wf
  obtain ⟨⟨⟨entries, tl⟩, th⟩, tg⟩ := wf
  have rowLength : (f.entries.list.flatMap scanPart).length = 48 := by rw [flatMap_length scanPart_length, f.entries.len]
  have part (i : Nat) (inRow : i < f.entries.list.length) {d : Nat} (inPart : d + 1 ≤ 2) :
      natAt (scanBytes f) (2 * i + d) 1 = natAt (scanPart f.entries.list[i]) d 1 := by
    rw [scanBytes_eq, natAt_part scanPart_length inRow inPart]
  have input (i : Fin 24) : natAt (scanBytes f) (2 * i.val) 1 = (f.entries.get i).input := by
    have inRow : i.val < f.entries.list.length := Nat.lt_of_lt_of_eq i.isLt f.entries.len.symm
    refine (part i inRow (d := 0) (by decide)).trans ?_
    exact natAt_first (entries _ (List.getElem_mem inRow)) _
  have stop (i : Fin 24) : choiceAt (scanBytes f) (2 * i.val + 1) true false = some (f.entries.get i).stop := by
    have inRow : i.val < f.entries.list.length := Nat.lt_of_lt_of_eq i.isLt f.entries.len.symm
    rw [choiceAt_eq, part i inRow (by decide), ← choiceAt_eq]
    simp [scanPart, Tab.get]
  have all : ((List.range 24).all fun i => (choiceAt (scanBytes f) (2 * i + 1) true false).isSome) = true := by
    rw [List.all_eq_true]
    intro i inRow
    rw [stop ⟨i, List.mem_range.1 inRow⟩]
    rfl
  have starts : natAt (scanBytes f) 48 1 = f.startTl ∧ natAt (scanBytes f) 49 1 = f.startTh
      ∧ natAt (scanBytes f) 50 1 = f.startTg := by
    rw [scanBytes_eq]
    simp [*]
  obtain ⟨tl', th', tg'⟩ := starts
  have read : (Tab.ofFn fun i : Fin 24 =>
      (⟨natAt (scanBytes f) (2 * i.val) 1, (choiceAt (scanBytes f) (2 * i.val + 1) true false).getD false⟩ : ScanEntryField))
        = f.entries := Tab.ext_get fun i => by rw [Tab.get_ofFn, input, stop]; rfl
  rw [scanFieldsAt, if_pos all, read, tl', th', tg']

theorem gridFieldsAt_gridBytes {f : GridFields} (wf : f.wellFormed = true) : gridFieldsAt (gridBytes f) = f := by
  simp only [GridFields.wellFormed, Bool.and_eq_true] at wf
  obtain ⟨⟨⟨limits, voltage⟩, current⟩, kp⟩ := wf
  have len := f.limits.len
  simp [gridFieldsAt, gridBytes, *]

theorem regimeFieldsAt_regimeBytes {f : RegimeFields} (wf : f.wellFormed = true) :
    regimeFieldsAt (requestPayload (.setRegime f)) = f := by
  simp only [RegimeFields.wellFormed, Bool.and_eq_true] at wf
  obtain ⟨breakpoints, map⟩ := wf
  have len := f.breakpoints.len
  simp [regimeFieldsAt, requestPayload, *]

/-- The part of a pair of levels of SET_PROFILE. -/
def levelPart (p : LevelPair) : List Byte := bytesOf p.warn 2 ++ bytesOf p.alarm 2

theorem levelPart_length (p : LevelPair) : (levelPart p).length = 4 := by simp [levelPart]

theorem profileBytes_eq (f : ProfileFields) :
    profileBytes f =
      bytesOf f.profile 1 ++ (bytesOf f.input 1 ++ (f.levels.list.flatMap levelPart ++ bytesOf f.persistence 1)) := by
  simp only [profileBytes, List.append_assoc]
  rfl

theorem profileFieldsAt_profileBytes {f : ProfileFields} (wf : f.wellFormed = true) : profileFieldsAt (profileBytes f) = f := by
  simp only [ProfileFields.wellFormed, Bool.and_eq_true, List.all_eq_true] at wf
  obtain ⟨⟨⟨profile, input⟩, levels⟩, persistence⟩ := wf
  have rowLength : (f.levels.list.flatMap levelPart).length = 32 := by rw [flatMap_length levelPart_length, f.levels.len]
  have part (i : Fin 8) {d : Nat} (inPart : d + 2 ≤ 4) :
      natAt (profileBytes f) (2 + (4 * i.val + d)) 2 = natAt (levelPart (f.levels.get i)) d 2 := by
    have inRow : i.val < f.levels.list.length := Nat.lt_of_lt_of_eq i.isLt f.levels.len.symm
    have skipped : 2 + (4 * i.val + d) - 1 - 1 = 4 * i.val + d := by omega
    rw [profileBytes_eq, natAt_skip (by rw [bytesOf_length]; omega), natAt_skip (by simp only [bytesOf_length]; omega),
      bytesOf_length, bytesOf_length, skipped, natAt_part levelPart_length inRow inPart]
    rfl
  have read : (Tab.ofFn fun i : Fin 8 =>
      (⟨natAt (profileBytes f) (2 + 4 * i.val) 2, natAt (profileBytes f) (4 + 4 * i.val) 2⟩ : LevelPair)) = f.levels :=
    Tab.ext_get fun i => by
      obtain ⟨warn, alarm⟩ := levels (f.levels.get i) (List.getElem_mem _)
      rw [Tab.get_ofFn, show 4 + 4 * i.val = 2 + (4 * i.val + 2) by omega, show 2 + 4 * i.val = 2 + (4 * i.val + 0) from rfl,
        part i (by decide), part i (by decide)]
      simp [levelPart, *]
  have rest : natAt (profileBytes f) 0 1 = f.profile ∧ natAt (profileBytes f) 1 1 = f.input
      ∧ natAt (profileBytes f) 34 1 = f.persistence := by
    rw [profileBytes_eq]
    simp [*]
  obtain ⟨profile', input', persistence'⟩ := rest
  rw [profileFieldsAt, read, profile', input', persistence']

theorem iceFieldsAt_iceBytes {f : IceFields} (wf : f.wellFormed = true) : iceFieldsAt (iceBytes f) = some f := by
  simp only [IceFields.wellFormed, Bool.and_eq_true] at wf
  obtain ⟨⟨⟨⟨⟨⟨⟨tice, hice⟩, power⟩, imbalance⟩, period⟩, tConfirm⟩, tThaw⟩, input⟩ := wf
  simp [iceFieldsAt, iceBytes, *]

/-- The part of a point of SET_CURVE. -/
def pointPart (p : CurvePoint) : List Byte := bytesOf p.wind 2 ++ bytesOf p.power 2

theorem pointPart_length (p : CurvePoint) : (pointPart p).length = 4 := by simp [pointPart]

theorem curveBytes_eq (points : List CurvePoint) :
    curveBytes points = bytesOf points.length 1 ++ points.flatMap pointPart := rfl

theorem curve_length_fits {points : List CurvePoint} (wf : curveWellFormed points = true) : fits 1 points.length = true := by
  simp only [curveWellFormed, Bool.and_eq_true, decide_eq_true_eq] at wf
  obtain ⟨few, -⟩ := wf
  exact decide_eq_true (by omega)

theorem natAt_curveBytes_length {points : List CurvePoint} (wf : curveWellFormed points = true) :
    natAt (curveBytes points) 0 1 = points.length := natAt_first (curve_length_fits wf) _

theorem curveAt_curveBytes {points : List CurvePoint} (wf : curveWellFormed points = true) : curveAt (curveBytes points) = points := by
  have part {i : Nat} (inRow : i < points.length) {d : Nat} (inPart : d + 2 ≤ 4) :
      natAt (curveBytes points) (1 + (4 * i + d)) 2 = natAt (pointPart points[i]) d 2 := by
    have row := natAt_part pointPart_length inRow inPart []
    rw [List.append_nil] at row
    rw [curveBytes_eq, natAt_skip (by rw [bytesOf_length]; omega), bytesOf_length, Nat.add_sub_cancel_left, row]
  have count := natAt_curveBytes_length wf
  simp only [curveWellFormed, Bool.and_eq_true, List.all_eq_true] at wf
  obtain ⟨-, points'⟩ := wf
  rw [curveAt, count]
  refine List.ext_getElem (by simp) fun i _ inRow => ?_
  obtain ⟨wind, power⟩ := points' points[i] (List.getElem_mem inRow)
  rw [List.getElem_map, List.getElem_range, show 3 + 4 * i = 1 + (4 * i + 2) by omega, show 1 + 4 * i = 1 + (4 * i + 0) from rfl,
    part inRow (by decide), part inRow (by decide)]
  simp [pointPart, *]

/-- SET_ITEM's fields before its choice. -/
def itemNumbers (f : ItemFields) : List Byte :=
  bytesOf f.slot 1 ++ bytesOf f.tag 2 ++ bytesOf f.basis 1 ++ bytesOf f.source 1 ++ bytesOf f.interval 4 ++ bytesOf f.lead 4

theorem itemNumbers_length (f : ItemFields) : (itemNumbers f).length = 13 := by simp [itemNumbers]

theorem itemBytes_eq (f : ItemFields) : itemBytes f = itemNumbers f ++ choiceBytes (f.choice = .keep) := rfl

/-- Whatever stands in its choice byte, a SET_ITEM carries its numbers. -/
theorem itemFieldsAt_itemNumbers {f : ItemFields} (wf : f.wellFormed = true) (choice : List Byte) :
    itemFieldsAt (itemNumbers f ++ choice) = (accruedChoiceAt (itemNumbers f ++ choice)).map fun c => { f with choice := c } := by
  simp only [ItemFields.wellFormed, Bool.and_eq_true] at wf
  obtain ⟨⟨⟨⟨⟨slot, tag⟩, basis⟩, source⟩, interval⟩, lead⟩ := wf
  have numbers : natAt (itemNumbers f ++ choice) 0 1 = f.slot ∧ natAt (itemNumbers f ++ choice) 1 2 = f.tag
      ∧ natAt (itemNumbers f ++ choice) 3 1 = f.basis ∧ natAt (itemNumbers f ++ choice) 4 1 = f.source
      ∧ natAt (itemNumbers f ++ choice) 5 4 = f.interval ∧ natAt (itemNumbers f ++ choice) 9 4 = f.lead := by
    simp [itemNumbers, *]
  obtain ⟨slot', tag', basis', source', interval', lead'⟩ := numbers
  rw [itemFieldsAt, slot', tag', basis', source', interval', lead']

theorem itemFieldsAt_itemBytes {f : ItemFields} (wf : f.wellFormed = true) : itemFieldsAt (itemBytes f) = some f := by
  have choice : accruedChoiceAt (itemNumbers f ++ choiceBytes (f.choice = .keep)) = some f.choice := by
    have read : choiceAt (itemNumbers f ++ choiceBytes (f.choice = .keep)) 13 AccruedChoice.keep .zero = some f.choice := by
      simp only [choiceAt_skip (itemNumbers_length f).le, itemNumbers_length, Nat.sub_self, choiceAt_only]
      cases f.choice <;> rfl
    rw [accruedChoiceAt, read]
  rw [itemBytes_eq, itemFieldsAt_itemNumbers wf, choice]
  rfl

theorem rowSelectionAt_rowBytes {row : Option RowSelection} (wf : (Request.readRegime row).wellFormed = true) :
    rowSelectionAt (rowBytes row) = some row := by
  cases row with
  | none => simp [rowSelectionAt, rowBytes]
  | some r =>
    simp only [Request.wellFormed, Bool.and_eq_true] at wf
    obtain ⟨profile, input⟩ := wf
    simp [rowSelectionAt, rowBytes, *]

/-! ### The requests -/

theorem requestOf_requestPayload {r : Request} (wf : r.wellFormed = true) : requestOf (requestType r) (requestPayload r) = some r := by
  cases r with
  | hello | status | readIce | iceRelease | fetch | save | reset => rfl
  | malformed type => cases wf
  | setTrack f => exact congrArg (fun x => some (requestOr 0x10 (x.map .setTrack))) (trackFieldsAt_trackBytes wf)
  | setScan f => exact congrArg (fun x => some (requestOr 0x12 (x.map .setScan))) (scanFieldsAt_scanBytes wf)
  | setGrid f => exact congrArg (fun x => some (Request.setGrid x)) (gridFieldsAt_gridBytes wf)
  | setRegime f => exact congrArg (fun x => some (Request.setRegime x)) (regimeFieldsAt_regimeBytes wf)
  | setProfile f => exact congrArg (fun x => some (Request.setProfile x)) (profileFieldsAt_profileBytes wf)
  | readRegime row => exact congrArg (fun x => some (requestOr 0x2A (x.map .readRegime))) (rowSelectionAt_rowBytes wf)
  | setIce f => exact congrArg (fun x => some (requestOr 0x31 (x.map .setIce))) (iceFieldsAt_iceBytes wf)
  | setCurve points => exact congrArg (fun x => some (Request.setCurve x)) (curveAt_curveBytes wf)
  | setItem f => exact congrArg (fun x => some (requestOr 0x38 (x.map .setItem))) (itemFieldsAt_itemBytes wf)
  | setInput f =>
    simp only [Request.wellFormed, InputFields.wellFormed, Bool.and_eq_true] at wf
    simp [requestOf, requestType, requestPayload, wf]
  | clearAverage input resetLevels =>
    simp only [Request.wellFormed] at wf
    simp [requestOf, requestType, requestPayload, requestOr, wf]
  | ambient f =>
    simp only [Request.wellFormed, AmbientFields.wellFormed, Bool.and_eq_true] at wf
    simp [requestOf, requestType, requestPayload, wf]
  | time _ | readTrack _ | readTsa _ _ _ | readIndicators _ | readGrid _ | serviceDone _ | readItems _ _ | snapRead _ _ | snapPop _ =>
    simp only [Request.wellFormed, Bool.and_eq_true] at wf
    simp [requestOf, requestType, requestPayload, wf]

theorem scanBytes_length (f : ScanFields) : (scanBytes f).length = 51 := by
  rw [scanBytes_eq]
  simp only [List.length_append, flatMap_length scanPart_length, f.entries.len, bytesOf_length]

theorem gridBytes_length (f : GridFields) : (gridBytes f).length = 54 := by
  simp [gridBytes, f.limits.len]

theorem regimeBytes_length (f : RegimeFields) : (requestPayload (.setRegime f)).length = 20 := by
  simp [requestPayload, f.breakpoints.len, f.map.len]

theorem profileBytes_length (f : ProfileFields) : (profileBytes f).length = 35 := by
  rw [profileBytes_eq]
  simp only [List.length_append, flatMap_length levelPart_length, f.levels.len, bytesOf_length]

theorem curveBytes_length (points : List CurvePoint) : (curveBytes points).length = 1 + 4 * points.length := by
  rw [curveBytes_eq, List.length_append, bytesOf_length, flatMap_length pointPart_length]

theorem inputBytes_length (f : InputFields) : (requestPayload (.setInput f)).length = 6 := by
  simp [requestPayload, f.orders.len]

theorem allowedLength_requestPayload {r : Request} (wf : r.wellFormed = true) :
    allowedLength (requestType r) (requestPayload r) = some (requestPayload r).length := by
  cases r with
  | malformed type => cases wf
  | hello | status | readIce | iceRelease | fetch | save | reset => rfl
  | setTrack f => exact congrArg some (show 16 = (trackBytes f).length by simp [trackBytes])
  | setScan f => exact congrArg some (scanBytes_length f).symm
  | setInput f => exact congrArg some (inputBytes_length f).symm
  | setGrid f => exact congrArg some (gridBytes_length f).symm
  | setRegime f => exact congrArg some (regimeBytes_length f).symm
  | setProfile f => exact congrArg some (profileBytes_length f).symm
  | readRegime row => cases row <;> rfl
  | setIce f => exact congrArg some (show 15 = (iceBytes f).length by simp [iceBytes])
  | setCurve points =>
    refine congrArg some (Eq.trans ?_ (curveBytes_length points).symm)
    exact congrArg (1 + 4 * ·) (natAt_curveBytes_length wf)
  | setItem f => exact congrArg some (show 14 = (itemBytes f).length by simp [itemBytes])
  | ambient _ | clearAverage _ _ | time _ | readTrack _ | readTsa _ _ _ | readIndicators _ | readGrid _ | serviceDone _
  | readItems _ _ | snapRead _ _ | snapPop _ => rfl

/-- With basis NONE every choice byte is read as some choice (R138). -/
theorem accruedChoiceAt_unjudged {p : List Byte} (unjudged : natAt p 3 1 = 0) : ∃ choice, accruedChoiceAt p = some choice := by
  unfold accruedChoiceAt
  split
  next choice _ => exact ⟨choice, rfl⟩
  next => exact ⟨.keep, if_pos unjudged⟩

/-- Settles O19: each request's fields are read from the parts they were sent in. -/
theorem requestsAreReadBack : Obligations.RequestsAreReadBack := by
  refine ⟨fun r wf => ⟨requestOf_requestPayload wf, allowedLength_requestPayload wf⟩, fun f b wf none => ?_⟩
  have numbers : (requestPayload (.setItem f)).take 13 = itemNumbers f := by
    change (itemNumbers f ++ choiceBytes _).take 13 = _
    rw [List.take_append_of_le_length (itemNumbers_length f).ge, List.take_of_length_le (itemNumbers_length f).le]
  rw [numbers]
  have unjudged : natAt (itemNumbers f ++ [b]) 3 1 = 0 := by
    have fit : fits 1 f.basis = true := by rw [none]; rfl
    have read : natAt (itemNumbers f ++ [b]) 3 1 = f.basis := by simp [itemNumbers, fit]
    exact read.trans none
  obtain ⟨choice, read⟩ := accruedChoiceAt_unjudged unjudged
  refine ⟨choice, ?_⟩
  have fields := itemFieldsAt_itemNumbers wf [b]
  rw [read] at fields
  exact congrArg (fun x => some (requestOr 0x38 (x.map .setItem))) fields

end Sys2Proof.Machine
end

section
set_option Elab.async false

/-! O20: the frame of a request reaches service, and the bytes of frames and replies. -/

namespace Sys2Proof.Machine

/-! ### Bytes -/

theorem byteOf_zero (n : Nat) : byteOf n 0 = BitVec.ofNat 8 n := by
  rw [byteOf, Nat.pow_zero, Nat.cast_one, Int.ediv_one]
  exact BitVec.ofInt_natCast ..

theorem bytesOf_one (n : Nat) : bytesOf n 1 = [BitVec.ofNat 8 n] := by
  rw [bytesOf, byteOf_zero, bytesOf]

theorem bytesOf_eq_map (v : Int) (width : Nat) :
    bytesOf v width = (List.range width).map fun k => BitVec.ofInt 8 (v / (256 ^ (width - 1 - k) : Nat)) := by
  induction width with
  | zero => rfl
  | succ w ih =>
    rw [bytesOf, ih, List.range_succ_eq_map, List.map_cons, List.map_map]
    refine congrArg₂ List.cons rfl (List.map_congr_left fun k _ => ?_)
    rw [Function.comp_apply, show w + 1 - 1 - k.succ = w - 1 - k by omega]

/-- The two bytes of a 16-bit register (R166). -/
theorem bytesOf_register (x : BitVec 16) : bytesOf x.toNat 2 = [(x >>> 8).setWidth 8, x.setWidth 8] := by
  have low : byteOf x.toNat 0 = x.setWidth 8 := by
    rw [byteOf_zero]
    exact BitVec.eq_of_toNat_eq (by simp)
  have high : byteOf x.toNat 1 = (x >>> 8).setWidth 8 := by
    rw [byteOf, ← Int.natCast_ediv, BitVec.ofInt_natCast]
    exact BitVec.eq_of_toNat_eq (by simp [Nat.shiftRight_eq_div_pow])
  rw [bytesOf, bytesOf, bytesOf, low, high]

theorem crcByte_eq (x : BitVec 16) (b : Byte) :
    crcByte x b = Nat.repeat crcShift 8 (x ^^^ BitVec.ofNat 16 (b.toNat * 256)) := by
  have shifted : b.setWidth 16 <<< 8 = BitVec.ofNat 16 (b.toNat * 256) :=
    BitVec.eq_of_toNat_eq (by simp [Nat.shiftLeft_eq])
  rw [crcByte, repeatTimes_eq, shifted]

theorem crc_eq (body : List Byte) :
    crc body = body.foldl (fun x b => Nat.repeat crcShift 8 (x ^^^ BitVec.ofNat 16 (b.toNat * 256))) 0xFFFF :=
  congrArg (fun f => body.foldl f 0xFFFF) (funext fun x => funext fun b => crcByte_eq x b)

/-- What lies between the start byte and the CRC of a frame (R166). -/
def frameBody (type : Nat) (payload : List Byte) : List Byte := bytesOf payload.length 1 ++ bytesOf type 1 ++ payload

theorem frameBody_eq (type : Nat) (payload : List Byte) :
    frameBody type payload = BitVec.ofNat 8 payload.length :: BitVec.ofNat 8 type :: payload := by
  rw [frameBody, bytesOf_one, bytesOf_one]
  rfl

theorem frameBytes_eq (type : Nat) (payload : List Byte) :
    frameBytes type payload = startByte :: (frameBody type payload ++ crcBytes (frameBody type payload)) := rfl

theorem crcBytes_eq (body : List Byte) : crcBytes body = [(crc body >>> 8).setWidth 8, (crc body).setWidth 8] :=
  bytesOf_register _

theorem reply_payload (r : Reply) :
    r.payload = BitVec.ofNat 8 r.status.code :: r.fields.flatMap fun f =>
      (List.range f.width).map fun k => BitVec.ofInt 8 (f.value / (256 ^ (f.width - 1 - k) : Nat)) := by
  have fields : Field.bytes = fun f => (List.range f.width).map fun k => BitVec.ofInt 8 (f.value / (256 ^ (f.width - 1 - k) : Nat)) :=
    funext fun f => bytesOf_eq_map f.value f.width
  rw [Reply.payload, bytesOf_one, fields]
  rfl

theorem kicked_eq (l : Lnk) :
    l.kicked =
      { l with sending := if l.sending = none then l.order.head?.bind fun p => p.reply.map Reply.bytes else l.sending } := by
  by_cases free : l.sending = none
  · rw [if_pos free, kicked_free free]
  · rw [if_neg free]
    unfold Lnk.kicked
    split
    next none _ => exact absurd none free
    next => rfl

/-! ### A frame received byte by byte -/

theorem requestType_fits {r : Request} (wf : r.wellFormed = true) : fits 1 (requestType r) = true := by
  cases r with
  | malformed type => cases wf
  | _ => rfl

theorem allowedLength_short {type n : Nat} {payload : List Byte} (allowed : allowedLength type payload = some n)
    (notCurve : type ≠ 0x32) : n ≤ 54 := by
  unfold allowedLength at allowed
  split at allowed <;> simp_all <;> omega

theorem requestPayload_short {r : Request} (wf : r.wellFormed = true) : (requestPayload r).length ≤ 250 := by
  have allowed := allowedLength_requestPayload wf
  cases r with
  | setCurve points =>
    simp only [Request.wellFormed, curveWellFormed, Bool.and_eq_true, decide_eq_true_eq] at wf
    exact (curveBytes_length points).trans_le wf.1
  | malformed type => cases wf
  | _ => exact (allowedLength_short allowed (by simp [requestType])).trans (by decide)

theorem receiveAll_append (s : State) (a b : List Byte) : s.receiveAll (a ++ b) = (s.receiveAll a).receiveAll b :=
  List.foldl_append ..

theorem receive_inFrame {s : State} (r : Receiver) (free : s.lnk.lineLow = false) (b : Byte) :
    (s.setReceiver r).receive (.byte b) = (s.setReceiver r).takeByte b := receive_free (s := s.setReceiver r) free b

/-- Bytes that do not complete a frame are gathered one after another (R167). -/
theorem receiveAll_gathers {s : State} (free : s.lnk.lineLow = false) (l : Byte) (rest more : List Byte)
    (short : rest.length + more.length + 1 < l.toNat + 4) :
    (s.setReceiver (.receiving (l :: rest) s.now)).receiveAll more = s.setReceiver (.receiving (l :: rest ++ more) s.now) := by
  induction more generalizing rest with
  | nil => rw [List.append_nil]; rfl
  | cons b more ih =>
    rw [List.length_cons] at short
    have step : (s.setReceiver (.receiving (l :: rest) s.now)).receive (.byte b) =
        s.setReceiver (.receiving (l :: (rest ++ [b])) s.now) := by
      rw [receive_inFrame _ free, takeByte_gathers (rest := rest) rfl (by omega)]
      rfl
    have gathered := ih (rest ++ [b]) (by rw [List.length_append, List.length_singleton]; omega)
    rw [State.receiveAll, List.foldl_cons, step]
    rw [List.cons_append, List.append_assoc] at gathered
    exact gathered

/-- A frame of an allowed length, received by a hunting receiver, is judged on its bytes (R167, R168). -/
theorem receiveAll_frame {s : State} (hunting : s.lnk.receiver = .hunting) (free : s.lnk.lineLow = false) (type : Nat)
    {payload : List Byte} (short : payload.length ≤ 250) :
    s.receiveAll (frameBytes type payload) = s.judgeFrame (frameBody type payload) (crcBytes (frameBody type payload)) := by
  let l : Byte := BitVec.ofNat 8 payload.length
  obtain ⟨high, low, sum_eq⟩ : ∃ high low, crcBytes (frameBody type payload) = [high, low] := ⟨_, _, crcBytes_eq _⟩
  have l_toNat : l.toNat = payload.length := (BitVec.toNat_ofNat ..).trans (Nat.mod_eq_of_lt (by omega))
  let more : List Byte := BitVec.ofNat 8 type :: payload ++ [high]
  have more_length : more.length = payload.length + 2 := by simp [more]
  have frame : frameBytes type payload = [startByte, l] ++ (more ++ [low]) := by
    rw [frameBytes_eq, sum_eq, frameBody_eq]
    simp [l, more]
  have whole : l :: more ++ [low] = frameBody type payload ++ [high, low] := by
    rw [frameBody_eq]
    simp [l, more]
  have body_length : (frameBody type payload).length = l.toNat + 2 := by rw [frameBody_eq, l_toNat]; rfl
  let t := s.setReceiver (.receiving (l :: more) s.now)
  have begins : s.receiveAll [startByte, l] = s.setReceiver (.receiving [l] s.now) := by
    change (s.receive (.byte startByte)).receive (.byte l) = _
    rw [receive_free free, takeByte_hunting hunting, if_pos (show startByte = 0xC3 from rfl), receive_inFrame _ free,
      takeByte_length rfl, if_pos (by rw [l_toNat]; exact short)]
    rfl
  have gathers : s.receiveAll ([startByte, l] ++ more) = t := by
    rw [receiveAll_append, begins]
    exact receiveAll_gathers free l [] more (by rw [more_length, l_toNat, List.length_nil]; omega)
  have completes : t.receive (.byte low) =
      (t.setReceiver .hunting).judgeFrame ((l :: more ++ [low]).take (l.toNat + 2)) ((l :: more ++ [low]).drop (l.toNat + 2)) := by
    rw [receive_free (s := t) free]
    exact takeByte_completes (s := t) rfl (by rw [more_length, l_toNat]) low
  have hunts : t.setReceiver .hunting = s := by
    change s.setReceiver .hunting = s
    rw [← hunting]
    rfl
  rw [frame, ← List.append_assoc, receiveAll_append, gathers]
  refine completes.trans ?_
  rw [hunts, whole, sum_eq, ← body_length, List.take_left, List.drop_left]

/-- The frame of a well-formed request passes every check, and the request takes its place (R168). -/
theorem judgeFrame_request {r : Request} (s : State) (wf : r.wellFormed = true) :
    s.judgeFrame (frameBody (requestType r) (requestPayload r)) (crcBytes (frameBody (requestType r) (requestPayload r))) =
      s.submit r := by
  let body := frameBody (requestType r) (requestPayload r)
  have type : natAt body 1 1 = requestType r := by
    simp [body, frameBody, requestType_fits wf]
  have payload : body.drop 2 = requestPayload r := by
    simp only [body, frameBody_eq]
    rfl
  by_cases drops : s.lnk.drops = true
  · exact (if_pos drops).trans (if_pos drops).symm
  · have right : s.judgeFrame body (crcBytes body) =
        match allowedLength (natAt body 1 1) (body.drop 2), requestOf (natAt body 1 1) (body.drop 2) with
        | some length, some r =>
          if (body.drop 2).length = length then s.submit r else s.faultReply (natAt body 1 1 + 0x80) .badLength
        | _, _ => s.faultReply untrusted .badType := (if_neg drops).trans (if_neg fun differs => differs rfl)
    rw [type, payload, allowedLength_requestPayload wf, requestOf_requestPayload wf] at right
    exact right.trans (if_pos rfl)

/-- Settles O20: the frame is gathered to its last byte, judged, and read back as its request. -/
theorem framesReachService : Obligations.FramesReachService := by
  refine ⟨fun r s wf hunting free => ?_, fun r => rfl, fun type payload => ?_, fun r => ?_, kicked_eq, rfl⟩
  · refine (receiveAll_frame hunting free _ (requestPayload_short wf)).trans ?_
    exact judgeFrame_request s wf
  · intro body shifted joined sum
    have body_eq : frameBody type payload = body := frameBody_eq type payload
    have sum_eq : crc body = sum := crc_eq body
    rw [frameBytes_eq, body_eq, crcBytes_eq, sum_eq]
    rfl
  · intro bytes
    exact congrArg (frameBytes r.type) (reply_payload r)

end Sys2Proof.Machine
end
